-- ==== Sys2Proof/Word.lean ====
section
/-! DEFINITION. The two word types of the block and their plainest arithmetic (R5, R6, R7). -/

namespace Sys2Proof

/-- A byte is 8 bits (R6); a byte is what memory, a port and an 8-bit register hold. -/
abbrev Byte := BitVec 8

/-- A word is 16 bits (R6); an address, a register pair, PC and SP are words (R5). -/
abbrev Word := BitVec 16

/-- The number of memory addresses: a flat array of 65,536 bytes (R70). -/
def addressCount : Nat := 65536

/-- The number of pages: 64 pages of 1 KiB (R71). -/
def pageCount : Nat := 64

/-- The bytes in one page: 1 KiB (R71). -/
def pageSize : Nat := 1024

end Sys2Proof
end

