-- ==== Sys2Proof/Machine/Bits.lean ====
section
/-! DEFINITION. Bit fields, byte order and extension (R6, R7). -/

namespace Sys2Proof

/-- The high byte of a word (R30: a pair's high byte comes first). -/
def hi (w : Word) : Byte := w.extractLsb' 8 8

/-- The low byte of a word. -/
def lo (w : Word) : Byte := w.extractLsb' 0 8

/-- `hi:lo`, the word of two bytes (R6). -/
def join (h l : Byte) : Word := h ++ l

/-- `sext_16` (R7): a byte read as two's complement, as a word. -/
def sext (v : Byte) : Word := v.signExtend 16

/-- Field x of an opcode byte (R112). -/
def fieldX (o : Byte) : BitVec 2 := o.extractLsb' 6 2

/-- Field y of an opcode byte (R112). -/
def fieldY (o : Byte) : BitVec 3 := o.extractLsb' 3 3

/-- Field z of an opcode byte (R112). -/
def fieldZ (o : Byte) : BitVec 3 := o.extractLsb' 0 3

/-- Field p of an opcode byte (R112). -/
def fieldP (o : Byte) : BitVec 2 := o.extractLsb' 4 2

/-- Field q of an opcode byte (R112). -/
def fieldQ (o : Byte) : Bool := o.getLsbD 3

/-- The page of an address, a[15:10] (R71). -/
def pageOf (a : Word) : Fin 64 := (a.extractLsb' 10 6).toFin

end Sys2Proof
end

