-- ==== Sys2Proof/Names.lean ====
section
/-! DEFINITION. The names an instruction's fields select: registers, pairs, conditions, ALU and rotate
operations, bit numbers and restart targets (R113 to R118). -/

namespace Sys2Proof

/-- The 8-bit registers the code `r` selects (R113); code 6 is the memory operand and is no register. -/
inductive Reg8 where
  | B | C | D | E | H | L | A
  deriving DecidableEq, Repr

/-- The 8-bit registers that index substitution leaves alone (R119 item 3): all but H and L. -/
inductive PlainReg where
  | B | C | D | E | A
  deriving DecidableEq, Repr

/-- A half of an index register: code 4 selects the high, code 5 the low byte (R119 item 3). -/
inductive Half where
  | H | L
  deriving DecidableEq, Repr

/-- The index register of a DD or FD instruction (R119). -/
inductive Index where
  | IX | IY
  deriving DecidableEq, Repr

/-- The pairs of the code `rp` (R114). -/
inductive Pair where
  | BC | DE | HL | SP
  deriving DecidableEq, Repr

/-- The pairs of the code `rp2`, used by PUSH and POP (R115). -/
inductive StackPair where
  | BC | DE | HL | AF
  deriving DecidableEq, Repr

/-- The operand `pp` of ADD xy,pp: the code `rp` with the index register itself for code 2 (R303). -/
inductive IndexPair where
  | BC | DE | XY | SP
  deriving DecidableEq, Repr

/-- The two pairs that address memory for the accumulator loads (R208 to R211). -/
inductive AccPointer where
  | BC | DE
  deriving DecidableEq, Repr

/-- The two special registers that load from and into A (R214 to R217). -/
inductive SpecialReg where
  | I | R
  deriving DecidableEq, Repr

/-- The condition codes `cc` (R116). -/
inductive Cond where
  | NZ | Z | NC | C | PO | PE | P | M
  deriving DecidableEq, Repr

/-- The four conditions JR has (R116). -/
inductive JrCond where
  | NZ | Z | NC | C
  deriving DecidableEq, Repr

/-- The ALU operations of the ALU code (R117). -/
inductive AluOp where
  | add | adc | sub | sbc | and | xor | or | cp
  deriving DecidableEq, Repr

/-- The rotate and shift operations of the rotate code (R118). -/
inductive RotOp where
  | rlc | rrc | rl | rr | sla | sra | sll | srl
  deriving DecidableEq, Repr

/-- The four rotates of A alone (R321 to R324). -/
inductive AccRot where
  | rlca | rrca | rla | rra
  deriving DecidableEq, Repr

/-- A bit number 0 to 7, the first operand of BIT, SET and RES (R124). -/
inductive BitNo where
  | b0 | b1 | b2 | b3 | b4 | b5 | b6 | b7
  deriving DecidableEq, Repr

/-- The eight restart targets 8 * ttt (R373). -/
inductive RstTarget where
  | t00 | t08 | t10 | t18 | t20 | t28 | t30 | t38
  deriving DecidableEq, Repr

/-- The three interrupt modes an IM instruction writes (R428 to R430). -/
inductive ImMode where
  | im0 | im1 | im2
  deriving DecidableEq, Repr

/-- The sixteen block instructions (47_block.md). -/
inductive BlockOp where
  | ldi | ldd | ldir | lddr | cpi | cpd | cpir | cpdr
  | ini | ind | inir | indr | outi | outd | otir | otdr
  deriving DecidableEq, Repr

/-- The prefixes whose second-byte tables have undefined entries (R126). -/
inductive OpPrefix where
  | ED | DD | FD
  deriving DecidableEq, Repr

end Sys2Proof
end

