-- ==== Sys2Proof/Machine/Codes.lean ====
section
/-! DEFINITION. The code 30_encoding.md gives each name (R111 to R119), and what the number fields stand for. -/

namespace Sys2Proof

/-- The prefix byte (R111). -/
def OpPrefix.byte : OpPrefix → Byte
  | .ED => 0xED
  | .DD => 0xDD
  | .FD => 0xFD

/-- The prefix byte of an index register: 0xDD for IX, 0xFD for IY (R119). -/
def Index.byte : Index → Byte
  | .IX => 0xDD
  | .IY => 0xFD

/-- The prefix an index register's instructions carry (R119). -/
def Index.opPrefix : Index → OpPrefix
  | .IX => .DD
  | .IY => .FD

/-- R113. -/
def Reg8.code : Reg8 → BitVec 3
  | .B => 0 | .C => 1 | .D => 2 | .E => 3 | .H => 4 | .L => 5 | .A => 7

/-- R113, for the registers other than H and L. -/
def PlainReg.code : PlainReg → BitVec 3
  | .B => 0 | .C => 1 | .D => 2 | .E => 3 | .A => 7

/-- R119 item 3: xyH has code 4, xyL code 5. -/
def Half.code : Half → BitVec 3
  | .H => 4 | .L => 5

/-- R114. -/
def Pair.code : Pair → BitVec 2
  | .BC => 0 | .DE => 1 | .HL => 2 | .SP => 3

/-- R115. -/
def StackPair.code : StackPair → BitVec 2
  | .BC => 0 | .DE => 1 | .HL => 2 | .AF => 3

/-- R303, R114. -/
def IndexPair.code : IndexPair → BitVec 2
  | .BC => 0 | .DE => 1 | .XY => 2 | .SP => 3

/-- R116. -/
def Cond.code : Cond → BitVec 3
  | .NZ => 0 | .Z => 1 | .NC => 2 | .C => 3 | .PO => 4 | .PE => 5 | .P => 6 | .M => 7

/-- R116: the code of JR's condition, y - 4. -/
def JrCond.code : JrCond → BitVec 3
  | .NZ => 0 | .Z => 1 | .NC => 2 | .C => 3

/-- The condition a JR condition names (R116). -/
def JrCond.cond : JrCond → Cond
  | .NZ => .NZ | .Z => .Z | .NC => .NC | .C => .C

/-- R117. -/
def AluOp.code : AluOp → BitVec 3
  | .add => 0 | .adc => 1 | .sub => 2 | .sbc => 3 | .and => 4 | .xor => 5 | .or => 6 | .cp => 7

/-- R118. -/
def RotOp.code : RotOp → BitVec 3
  | .rlc => 0 | .rrc => 1 | .rl => 2 | .rr => 3 | .sla => 4 | .sra => 5 | .sll => 6 | .srl => 7

/-- The bit number as a number. -/
def BitNo.num : BitNo → Nat
  | .b0 => 0 | .b1 => 1 | .b2 => 2 | .b3 => 3 | .b4 => 4 | .b5 => 5 | .b6 => 6 | .b7 => 7

/-- The bit number as the field bbb (R333). -/
def BitNo.code (b : BitNo) : BitVec 3 := BitVec.ofNat 3 b.num

/-- The field ttt (R373). -/
def RstTarget.code : RstTarget → BitVec 3
  | .t00 => 0 | .t08 => 1 | .t10 => 2 | .t18 => 3 | .t20 => 4 | .t28 => 5 | .t30 => 6 | .t38 => 7

/-- The restart address p = 8 * ttt (R373). -/
def RstTarget.addr (t : RstTarget) : Word := BitVec.ofNat 16 (8 * t.code.toNat)

/-- The value an IM instruction writes (R428 to R430). -/
def ImMode.value : ImMode → BitVec 2
  | .im0 => 0 | .im1 => 1 | .im2 => 2

/-- The field z of a DDCB/FDCB instruction that copies to a register or, with 6, to none (R340). -/
def copyCode : Option Reg8 → BitVec 3
  | none => 6
  | some r => r.code

end Sys2Proof
end

