-- ==== Sys2Proof/Syntax.lean ====
section
/-! DEFINITION. The instructions: one constructor per row of spec/opcode_table.json, in the table's order (the eight rows of each
`BIT b,(xy+d)` are one constructor, which keeps the ignored field z; the undefined opcodes of R126 are the constructor
`invalid`). A name is the Zilog mnemonic with `at` for parentheses and `to` for the copy of a DDCB/FDCB instruction; the suffix `_ED` marks
the ED forms of `LD HL,(nn)` and `LD (nn),HL`. -/

namespace Sys2Proof

/-- An instruction with its operands: d a displacement, n an immediate, e a relative displacement, nn a 16-bit immediate or address,
z the ignored field of `BIT b,(xy+d)`. -/
inductive Instr where
  /-- NOP (R424) -/
  | nop
  /-- LD BC,nn (R240) -/
  | ld_BC_nn (nn : Word)
  /-- LD (BC),A (R210) -/
  | ld_atBC_A
  /-- INC BC (R304) -/
  | inc_BC
  /-- INC B (R279) -/
  | inc_B
  /-- DEC B (R282) -/
  | dec_B
  /-- LD B,n (R201) -/
  | ld_B_n (n : Byte)
  /-- RLCA (R321) -/
  | rlca
  /-- EX AF,AF' (R255) -/
  | ex_AF_AFalt
  /-- ADD HL,BC (R300) -/
  | add_HL_BC
  /-- LD A,(BC) (R208) -/
  | ld_A_atBC
  /-- DEC BC (R306) -/
  | dec_BC
  /-- INC C (R279) -/
  | inc_C
  /-- DEC C (R282) -/
  | dec_C
  /-- LD C,n (R201) -/
  | ld_C_n (n : Byte)
  /-- RRCA (R323) -/
  | rrca
  /-- DJNZ e (R366) -/
  | djnz_e (e : Byte)
  /-- LD DE,nn (R240) -/
  | ld_DE_nn (nn : Word)
  /-- LD (DE),A (R211) -/
  | ld_atDE_A
  /-- INC DE (R304) -/
  | inc_DE
  /-- INC D (R279) -/
  | inc_D
  /-- DEC D (R282) -/
  | dec_D
  /-- LD D,n (R201) -/
  | ld_D_n (n : Byte)
  /-- RLA (R322) -/
  | rla
  /-- JR e (R362) -/
  | jr_e (e : Byte)
  /-- ADD HL,DE (R300) -/
  | add_HL_DE
  /-- LD A,(DE) (R209) -/
  | ld_A_atDE
  /-- DEC DE (R306) -/
  | dec_DE
  /-- INC E (R279) -/
  | inc_E
  /-- DEC E (R282) -/
  | dec_E
  /-- LD E,n (R201) -/
  | ld_E_n (n : Byte)
  /-- RRA (R324) -/
  | rra
  /-- JR NZ,e (R363) -/
  | jr_NZ_e (e : Byte)
  /-- LD HL,nn (R240) -/
  | ld_HL_nn (nn : Word)
  /-- LD (nn),HL (R245) -/
  | ld_atnn_HL (nn : Word)
  /-- INC HL (R304) -/
  | inc_HL
  /-- INC H (R279) -/
  | inc_H
  /-- DEC H (R282) -/
  | dec_H
  /-- LD H,n (R201) -/
  | ld_H_n (n : Byte)
  /-- DAA (R285) -/
  | daa
  /-- JR Z,e (R363) -/
  | jr_Z_e (e : Byte)
  /-- ADD HL,HL (R300) -/
  | add_HL_HL
  /-- LD HL,(nn) (R242) -/
  | ld_HL_atnn (nn : Word)
  /-- DEC HL (R306) -/
  | dec_HL
  /-- INC L (R279) -/
  | inc_L
  /-- DEC L (R282) -/
  | dec_L
  /-- LD L,n (R201) -/
  | ld_L_n (n : Byte)
  /-- CPL (R286) -/
  | cpl
  /-- JR NC,e (R363) -/
  | jr_NC_e (e : Byte)
  /-- LD SP,nn (R240) -/
  | ld_SP_nn (nn : Word)
  /-- LD (nn),A (R213) -/
  | ld_atnn_A (nn : Word)
  /-- INC SP (R304) -/
  | inc_SP
  /-- INC (HL) (R280) -/
  | inc_atHL
  /-- DEC (HL) (R283) -/
  | dec_atHL
  /-- LD (HL),n (R204) -/
  | ld_atHL_n (n : Byte)
  /-- SCF (R289) -/
  | scf
  /-- JR C,e (R363) -/
  | jr_C_e (e : Byte)
  /-- ADD HL,SP (R300) -/
  | add_HL_SP
  /-- LD A,(nn) (R212) -/
  | ld_A_atnn (nn : Word)
  /-- DEC SP (R306) -/
  | dec_SP
  /-- INC A (R279) -/
  | inc_A
  /-- DEC A (R282) -/
  | dec_A
  /-- LD A,n (R201) -/
  | ld_A_n (n : Byte)
  /-- CCF (R288) -/
  | ccf
  /-- LD B,B (R200) -/
  | ld_B_B
  /-- LD B,C (R200) -/
  | ld_B_C
  /-- LD B,D (R200) -/
  | ld_B_D
  /-- LD B,E (R200) -/
  | ld_B_E
  /-- LD B,H (R200) -/
  | ld_B_H
  /-- LD B,L (R200) -/
  | ld_B_L
  /-- LD B,(HL) (R202) -/
  | ld_B_atHL
  /-- LD B,A (R200) -/
  | ld_B_A
  /-- LD C,B (R200) -/
  | ld_C_B
  /-- LD C,C (R200) -/
  | ld_C_C
  /-- LD C,D (R200) -/
  | ld_C_D
  /-- LD C,E (R200) -/
  | ld_C_E
  /-- LD C,H (R200) -/
  | ld_C_H
  /-- LD C,L (R200) -/
  | ld_C_L
  /-- LD C,(HL) (R202) -/
  | ld_C_atHL
  /-- LD C,A (R200) -/
  | ld_C_A
  /-- LD D,B (R200) -/
  | ld_D_B
  /-- LD D,C (R200) -/
  | ld_D_C
  /-- LD D,D (R200) -/
  | ld_D_D
  /-- LD D,E (R200) -/
  | ld_D_E
  /-- LD D,H (R200) -/
  | ld_D_H
  /-- LD D,L (R200) -/
  | ld_D_L
  /-- LD D,(HL) (R202) -/
  | ld_D_atHL
  /-- LD D,A (R200) -/
  | ld_D_A
  /-- LD E,B (R200) -/
  | ld_E_B
  /-- LD E,C (R200) -/
  | ld_E_C
  /-- LD E,D (R200) -/
  | ld_E_D
  /-- LD E,E (R200) -/
  | ld_E_E
  /-- LD E,H (R200) -/
  | ld_E_H
  /-- LD E,L (R200) -/
  | ld_E_L
  /-- LD E,(HL) (R202) -/
  | ld_E_atHL
  /-- LD E,A (R200) -/
  | ld_E_A
  /-- LD H,B (R200) -/
  | ld_H_B
  /-- LD H,C (R200) -/
  | ld_H_C
  /-- LD H,D (R200) -/
  | ld_H_D
  /-- LD H,E (R200) -/
  | ld_H_E
  /-- LD H,H (R200) -/
  | ld_H_H
  /-- LD H,L (R200) -/
  | ld_H_L
  /-- LD H,(HL) (R202) -/
  | ld_H_atHL
  /-- LD H,A (R200) -/
  | ld_H_A
  /-- LD L,B (R200) -/
  | ld_L_B
  /-- LD L,C (R200) -/
  | ld_L_C
  /-- LD L,D (R200) -/
  | ld_L_D
  /-- LD L,E (R200) -/
  | ld_L_E
  /-- LD L,H (R200) -/
  | ld_L_H
  /-- LD L,L (R200) -/
  | ld_L_L
  /-- LD L,(HL) (R202) -/
  | ld_L_atHL
  /-- LD L,A (R200) -/
  | ld_L_A
  /-- LD (HL),B (R203) -/
  | ld_atHL_B
  /-- LD (HL),C (R203) -/
  | ld_atHL_C
  /-- LD (HL),D (R203) -/
  | ld_atHL_D
  /-- LD (HL),E (R203) -/
  | ld_atHL_E
  /-- LD (HL),H (R203) -/
  | ld_atHL_H
  /-- LD (HL),L (R203) -/
  | ld_atHL_L
  /-- HALT (R425) -/
  | halt
  /-- LD (HL),A (R203) -/
  | ld_atHL_A
  /-- LD A,B (R200) -/
  | ld_A_B
  /-- LD A,C (R200) -/
  | ld_A_C
  /-- LD A,D (R200) -/
  | ld_A_D
  /-- LD A,E (R200) -/
  | ld_A_E
  /-- LD A,H (R200) -/
  | ld_A_H
  /-- LD A,L (R200) -/
  | ld_A_L
  /-- LD A,(HL) (R202) -/
  | ld_A_atHL
  /-- LD A,A (R200) -/
  | ld_A_A
  /-- ADD A,B (R271) -/
  | add_A_B
  /-- ADD A,C (R271) -/
  | add_A_C
  /-- ADD A,D (R271) -/
  | add_A_D
  /-- ADD A,E (R271) -/
  | add_A_E
  /-- ADD A,H (R271) -/
  | add_A_H
  /-- ADD A,L (R271) -/
  | add_A_L
  /-- ADD A,(HL) (R271) -/
  | add_A_atHL
  /-- ADD A,A (R271) -/
  | add_A_A
  /-- ADC A,B (R272) -/
  | adc_A_B
  /-- ADC A,C (R272) -/
  | adc_A_C
  /-- ADC A,D (R272) -/
  | adc_A_D
  /-- ADC A,E (R272) -/
  | adc_A_E
  /-- ADC A,H (R272) -/
  | adc_A_H
  /-- ADC A,L (R272) -/
  | adc_A_L
  /-- ADC A,(HL) (R272) -/
  | adc_A_atHL
  /-- ADC A,A (R272) -/
  | adc_A_A
  /-- SUB B (R273) -/
  | sub_B
  /-- SUB C (R273) -/
  | sub_C
  /-- SUB D (R273) -/
  | sub_D
  /-- SUB E (R273) -/
  | sub_E
  /-- SUB H (R273) -/
  | sub_H
  /-- SUB L (R273) -/
  | sub_L
  /-- SUB (HL) (R273) -/
  | sub_atHL
  /-- SUB A (R273) -/
  | sub_A
  /-- SBC A,B (R274) -/
  | sbc_A_B
  /-- SBC A,C (R274) -/
  | sbc_A_C
  /-- SBC A,D (R274) -/
  | sbc_A_D
  /-- SBC A,E (R274) -/
  | sbc_A_E
  /-- SBC A,H (R274) -/
  | sbc_A_H
  /-- SBC A,L (R274) -/
  | sbc_A_L
  /-- SBC A,(HL) (R274) -/
  | sbc_A_atHL
  /-- SBC A,A (R274) -/
  | sbc_A_A
  /-- AND B (R275) -/
  | and_B
  /-- AND C (R275) -/
  | and_C
  /-- AND D (R275) -/
  | and_D
  /-- AND E (R275) -/
  | and_E
  /-- AND H (R275) -/
  | and_H
  /-- AND L (R275) -/
  | and_L
  /-- AND (HL) (R275) -/
  | and_atHL
  /-- AND A (R275) -/
  | and_A
  /-- XOR B (R276) -/
  | xor_B
  /-- XOR C (R276) -/
  | xor_C
  /-- XOR D (R276) -/
  | xor_D
  /-- XOR E (R276) -/
  | xor_E
  /-- XOR H (R276) -/
  | xor_H
  /-- XOR L (R276) -/
  | xor_L
  /-- XOR (HL) (R276) -/
  | xor_atHL
  /-- XOR A (R276) -/
  | xor_A
  /-- OR B (R277) -/
  | or_B
  /-- OR C (R277) -/
  | or_C
  /-- OR D (R277) -/
  | or_D
  /-- OR E (R277) -/
  | or_E
  /-- OR H (R277) -/
  | or_H
  /-- OR L (R277) -/
  | or_L
  /-- OR (HL) (R277) -/
  | or_atHL
  /-- OR A (R277) -/
  | or_A
  /-- CP B (R278) -/
  | cp_B
  /-- CP C (R278) -/
  | cp_C
  /-- CP D (R278) -/
  | cp_D
  /-- CP E (R278) -/
  | cp_E
  /-- CP H (R278) -/
  | cp_H
  /-- CP L (R278) -/
  | cp_L
  /-- CP (HL) (R278) -/
  | cp_atHL
  /-- CP A (R278) -/
  | cp_A
  /-- RET NZ (R370) -/
  | ret_NZ
  /-- POP BC (R252) -/
  | pop_BC
  /-- JP NZ,nn (R361) -/
  | jp_NZ_nn (nn : Word)
  /-- JP nn (R360) -/
  | jp_nn (nn : Word)
  /-- CALL NZ,nn (R368) -/
  | call_NZ_nn (nn : Word)
  /-- PUSH BC (R250) -/
  | push_BC
  /-- ADD A,n (R271) -/
  | add_A_n (n : Byte)
  /-- RST 00H (R373) -/
  | rst_00H
  /-- RET Z (R370) -/
  | ret_Z
  /-- RET (R369) -/
  | ret
  /-- JP Z,nn (R361) -/
  | jp_Z_nn (nn : Word)
  /-- CALL Z,nn (R368) -/
  | call_Z_nn (nn : Word)
  /-- CALL nn (R367) -/
  | call_nn (nn : Word)
  /-- ADC A,n (R272) -/
  | adc_A_n (n : Byte)
  /-- RST 08H (R373) -/
  | rst_08H
  /-- RET NC (R370) -/
  | ret_NC
  /-- POP DE (R252) -/
  | pop_DE
  /-- JP NC,nn (R361) -/
  | jp_NC_nn (nn : Word)
  /-- OUT (n),A (R422) -/
  | out_atn_A (n : Byte)
  /-- CALL NC,nn (R368) -/
  | call_NC_nn (nn : Word)
  /-- PUSH DE (R250) -/
  | push_DE
  /-- SUB n (R273) -/
  | sub_n (n : Byte)
  /-- RST 10H (R373) -/
  | rst_10H
  /-- RET C (R370) -/
  | ret_C
  /-- EXX (R256) -/
  | exx
  /-- JP C,nn (R361) -/
  | jp_C_nn (nn : Word)
  /-- IN A,(n) (R420) -/
  | in_A_atn (n : Byte)
  /-- CALL C,nn (R368) -/
  | call_C_nn (nn : Word)
  /-- SBC A,n (R274) -/
  | sbc_A_n (n : Byte)
  /-- RST 18H (R373) -/
  | rst_18H
  /-- RET PO (R370) -/
  | ret_PO
  /-- POP HL (R252) -/
  | pop_HL
  /-- JP PO,nn (R361) -/
  | jp_PO_nn (nn : Word)
  /-- EX (SP),HL (R257) -/
  | ex_atSP_HL
  /-- CALL PO,nn (R368) -/
  | call_PO_nn (nn : Word)
  /-- PUSH HL (R250) -/
  | push_HL
  /-- AND n (R275) -/
  | and_n (n : Byte)
  /-- RST 20H (R373) -/
  | rst_20H
  /-- RET PE (R370) -/
  | ret_PE
  /-- JP (HL) (R364) -/
  | jp_atHL
  /-- JP PE,nn (R361) -/
  | jp_PE_nn (nn : Word)
  /-- EX DE,HL (R254) -/
  | ex_DE_HL
  /-- CALL PE,nn (R368) -/
  | call_PE_nn (nn : Word)
  /-- XOR n (R276) -/
  | xor_n (n : Byte)
  /-- RST 28H (R373) -/
  | rst_28H
  /-- RET P (R370) -/
  | ret_P
  /-- POP AF (R252) -/
  | pop_AF
  /-- JP P,nn (R361) -/
  | jp_P_nn (nn : Word)
  /-- DI (R426) -/
  | di
  /-- CALL P,nn (R368) -/
  | call_P_nn (nn : Word)
  /-- PUSH AF (R250) -/
  | push_AF
  /-- OR n (R277) -/
  | or_n (n : Byte)
  /-- RST 30H (R373) -/
  | rst_30H
  /-- RET M (R370) -/
  | ret_M
  /-- LD SP,HL (R248) -/
  | ld_SP_HL
  /-- JP M,nn (R361) -/
  | jp_M_nn (nn : Word)
  /-- EI (R427) -/
  | ei
  /-- CALL M,nn (R368) -/
  | call_M_nn (nn : Word)
  /-- CP n (R278) -/
  | cp_n (n : Byte)
  /-- RST 38H (R373) -/
  | rst_38H
  /-- RLC B (R325) -/
  | rlc_B
  /-- RLC C (R325) -/
  | rlc_C
  /-- RLC D (R325) -/
  | rlc_D
  /-- RLC E (R325) -/
  | rlc_E
  /-- RLC H (R325) -/
  | rlc_H
  /-- RLC L (R325) -/
  | rlc_L
  /-- RLC (HL) (R325) -/
  | rlc_atHL
  /-- RLC A (R325) -/
  | rlc_A
  /-- RRC B (R326) -/
  | rrc_B
  /-- RRC C (R326) -/
  | rrc_C
  /-- RRC D (R326) -/
  | rrc_D
  /-- RRC E (R326) -/
  | rrc_E
  /-- RRC H (R326) -/
  | rrc_H
  /-- RRC L (R326) -/
  | rrc_L
  /-- RRC (HL) (R326) -/
  | rrc_atHL
  /-- RRC A (R326) -/
  | rrc_A
  /-- RL B (R327) -/
  | rl_B
  /-- RL C (R327) -/
  | rl_C
  /-- RL D (R327) -/
  | rl_D
  /-- RL E (R327) -/
  | rl_E
  /-- RL H (R327) -/
  | rl_H
  /-- RL L (R327) -/
  | rl_L
  /-- RL (HL) (R327) -/
  | rl_atHL
  /-- RL A (R327) -/
  | rl_A
  /-- RR B (R328) -/
  | rr_B
  /-- RR C (R328) -/
  | rr_C
  /-- RR D (R328) -/
  | rr_D
  /-- RR E (R328) -/
  | rr_E
  /-- RR H (R328) -/
  | rr_H
  /-- RR L (R328) -/
  | rr_L
  /-- RR (HL) (R328) -/
  | rr_atHL
  /-- RR A (R328) -/
  | rr_A
  /-- SLA B (R329) -/
  | sla_B
  /-- SLA C (R329) -/
  | sla_C
  /-- SLA D (R329) -/
  | sla_D
  /-- SLA E (R329) -/
  | sla_E
  /-- SLA H (R329) -/
  | sla_H
  /-- SLA L (R329) -/
  | sla_L
  /-- SLA (HL) (R329) -/
  | sla_atHL
  /-- SLA A (R329) -/
  | sla_A
  /-- SRA B (R330) -/
  | sra_B
  /-- SRA C (R330) -/
  | sra_C
  /-- SRA D (R330) -/
  | sra_D
  /-- SRA E (R330) -/
  | sra_E
  /-- SRA H (R330) -/
  | sra_H
  /-- SRA L (R330) -/
  | sra_L
  /-- SRA (HL) (R330) -/
  | sra_atHL
  /-- SRA A (R330) -/
  | sra_A
  /-- SLL B (R331) -/
  | sll_B
  /-- SLL C (R331) -/
  | sll_C
  /-- SLL D (R331) -/
  | sll_D
  /-- SLL E (R331) -/
  | sll_E
  /-- SLL H (R331) -/
  | sll_H
  /-- SLL L (R331) -/
  | sll_L
  /-- SLL (HL) (R331) -/
  | sll_atHL
  /-- SLL A (R331) -/
  | sll_A
  /-- SRL B (R332) -/
  | srl_B
  /-- SRL C (R332) -/
  | srl_C
  /-- SRL D (R332) -/
  | srl_D
  /-- SRL E (R332) -/
  | srl_E
  /-- SRL H (R332) -/
  | srl_H
  /-- SRL L (R332) -/
  | srl_L
  /-- SRL (HL) (R332) -/
  | srl_atHL
  /-- SRL A (R332) -/
  | srl_A
  /-- BIT 0,B (R333) -/
  | bit_0_B
  /-- BIT 0,C (R333) -/
  | bit_0_C
  /-- BIT 0,D (R333) -/
  | bit_0_D
  /-- BIT 0,E (R333) -/
  | bit_0_E
  /-- BIT 0,H (R333) -/
  | bit_0_H
  /-- BIT 0,L (R333) -/
  | bit_0_L
  /-- BIT 0,(HL) (R334) -/
  | bit_0_atHL
  /-- BIT 0,A (R333) -/
  | bit_0_A
  /-- BIT 1,B (R333) -/
  | bit_1_B
  /-- BIT 1,C (R333) -/
  | bit_1_C
  /-- BIT 1,D (R333) -/
  | bit_1_D
  /-- BIT 1,E (R333) -/
  | bit_1_E
  /-- BIT 1,H (R333) -/
  | bit_1_H
  /-- BIT 1,L (R333) -/
  | bit_1_L
  /-- BIT 1,(HL) (R334) -/
  | bit_1_atHL
  /-- BIT 1,A (R333) -/
  | bit_1_A
  /-- BIT 2,B (R333) -/
  | bit_2_B
  /-- BIT 2,C (R333) -/
  | bit_2_C
  /-- BIT 2,D (R333) -/
  | bit_2_D
  /-- BIT 2,E (R333) -/
  | bit_2_E
  /-- BIT 2,H (R333) -/
  | bit_2_H
  /-- BIT 2,L (R333) -/
  | bit_2_L
  /-- BIT 2,(HL) (R334) -/
  | bit_2_atHL
  /-- BIT 2,A (R333) -/
  | bit_2_A
  /-- BIT 3,B (R333) -/
  | bit_3_B
  /-- BIT 3,C (R333) -/
  | bit_3_C
  /-- BIT 3,D (R333) -/
  | bit_3_D
  /-- BIT 3,E (R333) -/
  | bit_3_E
  /-- BIT 3,H (R333) -/
  | bit_3_H
  /-- BIT 3,L (R333) -/
  | bit_3_L
  /-- BIT 3,(HL) (R334) -/
  | bit_3_atHL
  /-- BIT 3,A (R333) -/
  | bit_3_A
  /-- BIT 4,B (R333) -/
  | bit_4_B
  /-- BIT 4,C (R333) -/
  | bit_4_C
  /-- BIT 4,D (R333) -/
  | bit_4_D
  /-- BIT 4,E (R333) -/
  | bit_4_E
  /-- BIT 4,H (R333) -/
  | bit_4_H
  /-- BIT 4,L (R333) -/
  | bit_4_L
  /-- BIT 4,(HL) (R334) -/
  | bit_4_atHL
  /-- BIT 4,A (R333) -/
  | bit_4_A
  /-- BIT 5,B (R333) -/
  | bit_5_B
  /-- BIT 5,C (R333) -/
  | bit_5_C
  /-- BIT 5,D (R333) -/
  | bit_5_D
  /-- BIT 5,E (R333) -/
  | bit_5_E
  /-- BIT 5,H (R333) -/
  | bit_5_H
  /-- BIT 5,L (R333) -/
  | bit_5_L
  /-- BIT 5,(HL) (R334) -/
  | bit_5_atHL
  /-- BIT 5,A (R333) -/
  | bit_5_A
  /-- BIT 6,B (R333) -/
  | bit_6_B
  /-- BIT 6,C (R333) -/
  | bit_6_C
  /-- BIT 6,D (R333) -/
  | bit_6_D
  /-- BIT 6,E (R333) -/
  | bit_6_E
  /-- BIT 6,H (R333) -/
  | bit_6_H
  /-- BIT 6,L (R333) -/
  | bit_6_L
  /-- BIT 6,(HL) (R334) -/
  | bit_6_atHL
  /-- BIT 6,A (R333) -/
  | bit_6_A
  /-- BIT 7,B (R333) -/
  | bit_7_B
  /-- BIT 7,C (R333) -/
  | bit_7_C
  /-- BIT 7,D (R333) -/
  | bit_7_D
  /-- BIT 7,E (R333) -/
  | bit_7_E
  /-- BIT 7,H (R333) -/
  | bit_7_H
  /-- BIT 7,L (R333) -/
  | bit_7_L
  /-- BIT 7,(HL) (R334) -/
  | bit_7_atHL
  /-- BIT 7,A (R333) -/
  | bit_7_A
  /-- RES 0,B (R337) -/
  | res_0_B
  /-- RES 0,C (R337) -/
  | res_0_C
  /-- RES 0,D (R337) -/
  | res_0_D
  /-- RES 0,E (R337) -/
  | res_0_E
  /-- RES 0,H (R337) -/
  | res_0_H
  /-- RES 0,L (R337) -/
  | res_0_L
  /-- RES 0,(HL) (R337) -/
  | res_0_atHL
  /-- RES 0,A (R337) -/
  | res_0_A
  /-- RES 1,B (R337) -/
  | res_1_B
  /-- RES 1,C (R337) -/
  | res_1_C
  /-- RES 1,D (R337) -/
  | res_1_D
  /-- RES 1,E (R337) -/
  | res_1_E
  /-- RES 1,H (R337) -/
  | res_1_H
  /-- RES 1,L (R337) -/
  | res_1_L
  /-- RES 1,(HL) (R337) -/
  | res_1_atHL
  /-- RES 1,A (R337) -/
  | res_1_A
  /-- RES 2,B (R337) -/
  | res_2_B
  /-- RES 2,C (R337) -/
  | res_2_C
  /-- RES 2,D (R337) -/
  | res_2_D
  /-- RES 2,E (R337) -/
  | res_2_E
  /-- RES 2,H (R337) -/
  | res_2_H
  /-- RES 2,L (R337) -/
  | res_2_L
  /-- RES 2,(HL) (R337) -/
  | res_2_atHL
  /-- RES 2,A (R337) -/
  | res_2_A
  /-- RES 3,B (R337) -/
  | res_3_B
  /-- RES 3,C (R337) -/
  | res_3_C
  /-- RES 3,D (R337) -/
  | res_3_D
  /-- RES 3,E (R337) -/
  | res_3_E
  /-- RES 3,H (R337) -/
  | res_3_H
  /-- RES 3,L (R337) -/
  | res_3_L
  /-- RES 3,(HL) (R337) -/
  | res_3_atHL
  /-- RES 3,A (R337) -/
  | res_3_A
  /-- RES 4,B (R337) -/
  | res_4_B
  /-- RES 4,C (R337) -/
  | res_4_C
  /-- RES 4,D (R337) -/
  | res_4_D
  /-- RES 4,E (R337) -/
  | res_4_E
  /-- RES 4,H (R337) -/
  | res_4_H
  /-- RES 4,L (R337) -/
  | res_4_L
  /-- RES 4,(HL) (R337) -/
  | res_4_atHL
  /-- RES 4,A (R337) -/
  | res_4_A
  /-- RES 5,B (R337) -/
  | res_5_B
  /-- RES 5,C (R337) -/
  | res_5_C
  /-- RES 5,D (R337) -/
  | res_5_D
  /-- RES 5,E (R337) -/
  | res_5_E
  /-- RES 5,H (R337) -/
  | res_5_H
  /-- RES 5,L (R337) -/
  | res_5_L
  /-- RES 5,(HL) (R337) -/
  | res_5_atHL
  /-- RES 5,A (R337) -/
  | res_5_A
  /-- RES 6,B (R337) -/
  | res_6_B
  /-- RES 6,C (R337) -/
  | res_6_C
  /-- RES 6,D (R337) -/
  | res_6_D
  /-- RES 6,E (R337) -/
  | res_6_E
  /-- RES 6,H (R337) -/
  | res_6_H
  /-- RES 6,L (R337) -/
  | res_6_L
  /-- RES 6,(HL) (R337) -/
  | res_6_atHL
  /-- RES 6,A (R337) -/
  | res_6_A
  /-- RES 7,B (R337) -/
  | res_7_B
  /-- RES 7,C (R337) -/
  | res_7_C
  /-- RES 7,D (R337) -/
  | res_7_D
  /-- RES 7,E (R337) -/
  | res_7_E
  /-- RES 7,H (R337) -/
  | res_7_H
  /-- RES 7,L (R337) -/
  | res_7_L
  /-- RES 7,(HL) (R337) -/
  | res_7_atHL
  /-- RES 7,A (R337) -/
  | res_7_A
  /-- SET 0,B (R336) -/
  | set_0_B
  /-- SET 0,C (R336) -/
  | set_0_C
  /-- SET 0,D (R336) -/
  | set_0_D
  /-- SET 0,E (R336) -/
  | set_0_E
  /-- SET 0,H (R336) -/
  | set_0_H
  /-- SET 0,L (R336) -/
  | set_0_L
  /-- SET 0,(HL) (R336) -/
  | set_0_atHL
  /-- SET 0,A (R336) -/
  | set_0_A
  /-- SET 1,B (R336) -/
  | set_1_B
  /-- SET 1,C (R336) -/
  | set_1_C
  /-- SET 1,D (R336) -/
  | set_1_D
  /-- SET 1,E (R336) -/
  | set_1_E
  /-- SET 1,H (R336) -/
  | set_1_H
  /-- SET 1,L (R336) -/
  | set_1_L
  /-- SET 1,(HL) (R336) -/
  | set_1_atHL
  /-- SET 1,A (R336) -/
  | set_1_A
  /-- SET 2,B (R336) -/
  | set_2_B
  /-- SET 2,C (R336) -/
  | set_2_C
  /-- SET 2,D (R336) -/
  | set_2_D
  /-- SET 2,E (R336) -/
  | set_2_E
  /-- SET 2,H (R336) -/
  | set_2_H
  /-- SET 2,L (R336) -/
  | set_2_L
  /-- SET 2,(HL) (R336) -/
  | set_2_atHL
  /-- SET 2,A (R336) -/
  | set_2_A
  /-- SET 3,B (R336) -/
  | set_3_B
  /-- SET 3,C (R336) -/
  | set_3_C
  /-- SET 3,D (R336) -/
  | set_3_D
  /-- SET 3,E (R336) -/
  | set_3_E
  /-- SET 3,H (R336) -/
  | set_3_H
  /-- SET 3,L (R336) -/
  | set_3_L
  /-- SET 3,(HL) (R336) -/
  | set_3_atHL
  /-- SET 3,A (R336) -/
  | set_3_A
  /-- SET 4,B (R336) -/
  | set_4_B
  /-- SET 4,C (R336) -/
  | set_4_C
  /-- SET 4,D (R336) -/
  | set_4_D
  /-- SET 4,E (R336) -/
  | set_4_E
  /-- SET 4,H (R336) -/
  | set_4_H
  /-- SET 4,L (R336) -/
  | set_4_L
  /-- SET 4,(HL) (R336) -/
  | set_4_atHL
  /-- SET 4,A (R336) -/
  | set_4_A
  /-- SET 5,B (R336) -/
  | set_5_B
  /-- SET 5,C (R336) -/
  | set_5_C
  /-- SET 5,D (R336) -/
  | set_5_D
  /-- SET 5,E (R336) -/
  | set_5_E
  /-- SET 5,H (R336) -/
  | set_5_H
  /-- SET 5,L (R336) -/
  | set_5_L
  /-- SET 5,(HL) (R336) -/
  | set_5_atHL
  /-- SET 5,A (R336) -/
  | set_5_A
  /-- SET 6,B (R336) -/
  | set_6_B
  /-- SET 6,C (R336) -/
  | set_6_C
  /-- SET 6,D (R336) -/
  | set_6_D
  /-- SET 6,E (R336) -/
  | set_6_E
  /-- SET 6,H (R336) -/
  | set_6_H
  /-- SET 6,L (R336) -/
  | set_6_L
  /-- SET 6,(HL) (R336) -/
  | set_6_atHL
  /-- SET 6,A (R336) -/
  | set_6_A
  /-- SET 7,B (R336) -/
  | set_7_B
  /-- SET 7,C (R336) -/
  | set_7_C
  /-- SET 7,D (R336) -/
  | set_7_D
  /-- SET 7,E (R336) -/
  | set_7_E
  /-- SET 7,H (R336) -/
  | set_7_H
  /-- SET 7,L (R336) -/
  | set_7_L
  /-- SET 7,(HL) (R336) -/
  | set_7_atHL
  /-- SET 7,A (R336) -/
  | set_7_A
  /-- IN B,(C) (R421) -/
  | in_B_atC
  /-- OUT (C),B (R423) -/
  | out_atC_B
  /-- SBC HL,BC (R302) -/
  | sbc_HL_BC
  /-- LD (nn),BC (R246) -/
  | ld_atnn_BC (nn : Word)
  /-- NEG (R287) -/
  | neg
  /-- RETN (R372) -/
  | retn
  /-- IM 0 (R428) -/
  | im_0
  /-- LD I,A (R216) -/
  | ld_I_A
  /-- IN C,(C) (R421) -/
  | in_C_atC
  /-- OUT (C),C (R423) -/
  | out_atC_C
  /-- ADC HL,BC (R301) -/
  | adc_HL_BC
  /-- LD BC,(nn) (R243) -/
  | ld_BC_atnn (nn : Word)
  /-- RETI (R371) -/
  | reti
  /-- LD R,A (R217) -/
  | ld_R_A
  /-- IN D,(C) (R421) -/
  | in_D_atC
  /-- OUT (C),D (R423) -/
  | out_atC_D
  /-- SBC HL,DE (R302) -/
  | sbc_HL_DE
  /-- LD (nn),DE (R246) -/
  | ld_atnn_DE (nn : Word)
  /-- IM 1 (R429) -/
  | im_1
  /-- LD A,I (R214) -/
  | ld_A_I
  /-- IN E,(C) (R421) -/
  | in_E_atC
  /-- OUT (C),E (R423) -/
  | out_atC_E
  /-- ADC HL,DE (R301) -/
  | adc_HL_DE
  /-- LD DE,(nn) (R243) -/
  | ld_DE_atnn (nn : Word)
  /-- IM 2 (R430) -/
  | im_2
  /-- LD A,R (R215) -/
  | ld_A_R
  /-- IN H,(C) (R421) -/
  | in_H_atC
  /-- OUT (C),H (R423) -/
  | out_atC_H
  /-- SBC HL,HL (R302) -/
  | sbc_HL_HL
  /-- LD (nn),HL (R246) -/
  | ld_atnn_HL_ED (nn : Word)
  /-- RRD (R339) -/
  | rrd
  /-- IN L,(C) (R421) -/
  | in_L_atC
  /-- OUT (C),L (R423) -/
  | out_atC_L
  /-- ADC HL,HL (R301) -/
  | adc_HL_HL
  /-- LD HL,(nn) (R243) -/
  | ld_HL_atnn_ED (nn : Word)
  /-- RLD (R338) -/
  | rld
  /-- SBC HL,SP (R302) -/
  | sbc_HL_SP
  /-- LD (nn),SP (R246) -/
  | ld_atnn_SP (nn : Word)
  /-- IN A,(C) (R421) -/
  | in_A_atC
  /-- OUT (C),A (R423) -/
  | out_atC_A
  /-- ADC HL,SP (R301) -/
  | adc_HL_SP
  /-- LD SP,(nn) (R243) -/
  | ld_SP_atnn (nn : Word)
  /-- LDI (R391) -/
  | ldi
  /-- CPI (R395) -/
  | cpi
  /-- INI (R399) -/
  | ini
  /-- OUTI (R403) -/
  | outi
  /-- LDD (R393) -/
  | ldd
  /-- CPD (R397) -/
  | cpd
  /-- IND (R401) -/
  | ind
  /-- OUTD (R405) -/
  | outd
  /-- LDIR (R392) -/
  | ldir
  /-- CPIR (R396) -/
  | cpir
  /-- INIR (R400) -/
  | inir
  /-- OTIR (R404) -/
  | otir
  /-- LDDR (R394) -/
  | lddr
  /-- CPDR (R398) -/
  | cpdr
  /-- INDR (R402) -/
  | indr
  /-- OTDR (R406) -/
  | otdr
  /-- ADD IX,BC (R303) -/
  | add_IX_BC
  /-- ADD IX,DE (R303) -/
  | add_IX_DE
  /-- LD IX,nn (R241) -/
  | ld_IX_nn (nn : Word)
  /-- LD (nn),IX (R247) -/
  | ld_atnn_IX (nn : Word)
  /-- INC IX (R305) -/
  | inc_IX
  /-- INC IXH (R279) -/
  | inc_IXH
  /-- DEC IXH (R282) -/
  | dec_IXH
  /-- LD IXH,n (R219) -/
  | ld_IXH_n (n : Byte)
  /-- ADD IX,IX (R303) -/
  | add_IX_IX
  /-- LD IX,(nn) (R244) -/
  | ld_IX_atnn (nn : Word)
  /-- DEC IX (R307) -/
  | dec_IX
  /-- INC IXL (R279) -/
  | inc_IXL
  /-- DEC IXL (R282) -/
  | dec_IXL
  /-- LD IXL,n (R219) -/
  | ld_IXL_n (n : Byte)
  /-- INC (IX+d) (R281) -/
  | inc_atIXd (d : Byte)
  /-- DEC (IX+d) (R284) -/
  | dec_atIXd (d : Byte)
  /-- LD (IX+d),n (R207) -/
  | ld_atIXd_n (d : Byte) (n : Byte)
  /-- ADD IX,SP (R303) -/
  | add_IX_SP
  /-- LD B,IXH (R218) -/
  | ld_B_IXH
  /-- LD B,IXL (R218) -/
  | ld_B_IXL
  /-- LD B,(IX+d) (R205) -/
  | ld_B_atIXd (d : Byte)
  /-- LD C,IXH (R218) -/
  | ld_C_IXH
  /-- LD C,IXL (R218) -/
  | ld_C_IXL
  /-- LD C,(IX+d) (R205) -/
  | ld_C_atIXd (d : Byte)
  /-- LD D,IXH (R218) -/
  | ld_D_IXH
  /-- LD D,IXL (R218) -/
  | ld_D_IXL
  /-- LD D,(IX+d) (R205) -/
  | ld_D_atIXd (d : Byte)
  /-- LD E,IXH (R218) -/
  | ld_E_IXH
  /-- LD E,IXL (R218) -/
  | ld_E_IXL
  /-- LD E,(IX+d) (R205) -/
  | ld_E_atIXd (d : Byte)
  /-- LD IXH,B (R218) -/
  | ld_IXH_B
  /-- LD IXH,C (R218) -/
  | ld_IXH_C
  /-- LD IXH,D (R218) -/
  | ld_IXH_D
  /-- LD IXH,E (R218) -/
  | ld_IXH_E
  /-- LD IXH,IXH (R218) -/
  | ld_IXH_IXH
  /-- LD IXH,IXL (R218) -/
  | ld_IXH_IXL
  /-- LD H,(IX+d) (R205) -/
  | ld_H_atIXd (d : Byte)
  /-- LD IXH,A (R218) -/
  | ld_IXH_A
  /-- LD IXL,B (R218) -/
  | ld_IXL_B
  /-- LD IXL,C (R218) -/
  | ld_IXL_C
  /-- LD IXL,D (R218) -/
  | ld_IXL_D
  /-- LD IXL,E (R218) -/
  | ld_IXL_E
  /-- LD IXL,IXH (R218) -/
  | ld_IXL_IXH
  /-- LD IXL,IXL (R218) -/
  | ld_IXL_IXL
  /-- LD L,(IX+d) (R205) -/
  | ld_L_atIXd (d : Byte)
  /-- LD IXL,A (R218) -/
  | ld_IXL_A
  /-- LD (IX+d),B (R206) -/
  | ld_atIXd_B (d : Byte)
  /-- LD (IX+d),C (R206) -/
  | ld_atIXd_C (d : Byte)
  /-- LD (IX+d),D (R206) -/
  | ld_atIXd_D (d : Byte)
  /-- LD (IX+d),E (R206) -/
  | ld_atIXd_E (d : Byte)
  /-- LD (IX+d),H (R206) -/
  | ld_atIXd_H (d : Byte)
  /-- LD (IX+d),L (R206) -/
  | ld_atIXd_L (d : Byte)
  /-- LD (IX+d),A (R206) -/
  | ld_atIXd_A (d : Byte)
  /-- LD A,IXH (R218) -/
  | ld_A_IXH
  /-- LD A,IXL (R218) -/
  | ld_A_IXL
  /-- LD A,(IX+d) (R205) -/
  | ld_A_atIXd (d : Byte)
  /-- ADD A,IXH (R271) -/
  | add_A_IXH
  /-- ADD A,IXL (R271) -/
  | add_A_IXL
  /-- ADD A,(IX+d) (R271) -/
  | add_A_atIXd (d : Byte)
  /-- ADC A,IXH (R272) -/
  | adc_A_IXH
  /-- ADC A,IXL (R272) -/
  | adc_A_IXL
  /-- ADC A,(IX+d) (R272) -/
  | adc_A_atIXd (d : Byte)
  /-- SUB IXH (R273) -/
  | sub_IXH
  /-- SUB IXL (R273) -/
  | sub_IXL
  /-- SUB (IX+d) (R273) -/
  | sub_atIXd (d : Byte)
  /-- SBC A,IXH (R274) -/
  | sbc_A_IXH
  /-- SBC A,IXL (R274) -/
  | sbc_A_IXL
  /-- SBC A,(IX+d) (R274) -/
  | sbc_A_atIXd (d : Byte)
  /-- AND IXH (R275) -/
  | and_IXH
  /-- AND IXL (R275) -/
  | and_IXL
  /-- AND (IX+d) (R275) -/
  | and_atIXd (d : Byte)
  /-- XOR IXH (R276) -/
  | xor_IXH
  /-- XOR IXL (R276) -/
  | xor_IXL
  /-- XOR (IX+d) (R276) -/
  | xor_atIXd (d : Byte)
  /-- OR IXH (R277) -/
  | or_IXH
  /-- OR IXL (R277) -/
  | or_IXL
  /-- OR (IX+d) (R277) -/
  | or_atIXd (d : Byte)
  /-- CP IXH (R278) -/
  | cp_IXH
  /-- CP IXL (R278) -/
  | cp_IXL
  /-- CP (IX+d) (R278) -/
  | cp_atIXd (d : Byte)
  /-- RLC (IX+d) -> B (R325) -/
  | rlc_atIXd_to_B (d : Byte)
  /-- RLC (IX+d) -> C (R325) -/
  | rlc_atIXd_to_C (d : Byte)
  /-- RLC (IX+d) -> D (R325) -/
  | rlc_atIXd_to_D (d : Byte)
  /-- RLC (IX+d) -> E (R325) -/
  | rlc_atIXd_to_E (d : Byte)
  /-- RLC (IX+d) -> H (R325) -/
  | rlc_atIXd_to_H (d : Byte)
  /-- RLC (IX+d) -> L (R325) -/
  | rlc_atIXd_to_L (d : Byte)
  /-- RLC (IX+d) (R325) -/
  | rlc_atIXd (d : Byte)
  /-- RLC (IX+d) -> A (R325) -/
  | rlc_atIXd_to_A (d : Byte)
  /-- RRC (IX+d) -> B (R326) -/
  | rrc_atIXd_to_B (d : Byte)
  /-- RRC (IX+d) -> C (R326) -/
  | rrc_atIXd_to_C (d : Byte)
  /-- RRC (IX+d) -> D (R326) -/
  | rrc_atIXd_to_D (d : Byte)
  /-- RRC (IX+d) -> E (R326) -/
  | rrc_atIXd_to_E (d : Byte)
  /-- RRC (IX+d) -> H (R326) -/
  | rrc_atIXd_to_H (d : Byte)
  /-- RRC (IX+d) -> L (R326) -/
  | rrc_atIXd_to_L (d : Byte)
  /-- RRC (IX+d) (R326) -/
  | rrc_atIXd (d : Byte)
  /-- RRC (IX+d) -> A (R326) -/
  | rrc_atIXd_to_A (d : Byte)
  /-- RL (IX+d) -> B (R327) -/
  | rl_atIXd_to_B (d : Byte)
  /-- RL (IX+d) -> C (R327) -/
  | rl_atIXd_to_C (d : Byte)
  /-- RL (IX+d) -> D (R327) -/
  | rl_atIXd_to_D (d : Byte)
  /-- RL (IX+d) -> E (R327) -/
  | rl_atIXd_to_E (d : Byte)
  /-- RL (IX+d) -> H (R327) -/
  | rl_atIXd_to_H (d : Byte)
  /-- RL (IX+d) -> L (R327) -/
  | rl_atIXd_to_L (d : Byte)
  /-- RL (IX+d) (R327) -/
  | rl_atIXd (d : Byte)
  /-- RL (IX+d) -> A (R327) -/
  | rl_atIXd_to_A (d : Byte)
  /-- RR (IX+d) -> B (R328) -/
  | rr_atIXd_to_B (d : Byte)
  /-- RR (IX+d) -> C (R328) -/
  | rr_atIXd_to_C (d : Byte)
  /-- RR (IX+d) -> D (R328) -/
  | rr_atIXd_to_D (d : Byte)
  /-- RR (IX+d) -> E (R328) -/
  | rr_atIXd_to_E (d : Byte)
  /-- RR (IX+d) -> H (R328) -/
  | rr_atIXd_to_H (d : Byte)
  /-- RR (IX+d) -> L (R328) -/
  | rr_atIXd_to_L (d : Byte)
  /-- RR (IX+d) (R328) -/
  | rr_atIXd (d : Byte)
  /-- RR (IX+d) -> A (R328) -/
  | rr_atIXd_to_A (d : Byte)
  /-- SLA (IX+d) -> B (R329) -/
  | sla_atIXd_to_B (d : Byte)
  /-- SLA (IX+d) -> C (R329) -/
  | sla_atIXd_to_C (d : Byte)
  /-- SLA (IX+d) -> D (R329) -/
  | sla_atIXd_to_D (d : Byte)
  /-- SLA (IX+d) -> E (R329) -/
  | sla_atIXd_to_E (d : Byte)
  /-- SLA (IX+d) -> H (R329) -/
  | sla_atIXd_to_H (d : Byte)
  /-- SLA (IX+d) -> L (R329) -/
  | sla_atIXd_to_L (d : Byte)
  /-- SLA (IX+d) (R329) -/
  | sla_atIXd (d : Byte)
  /-- SLA (IX+d) -> A (R329) -/
  | sla_atIXd_to_A (d : Byte)
  /-- SRA (IX+d) -> B (R330) -/
  | sra_atIXd_to_B (d : Byte)
  /-- SRA (IX+d) -> C (R330) -/
  | sra_atIXd_to_C (d : Byte)
  /-- SRA (IX+d) -> D (R330) -/
  | sra_atIXd_to_D (d : Byte)
  /-- SRA (IX+d) -> E (R330) -/
  | sra_atIXd_to_E (d : Byte)
  /-- SRA (IX+d) -> H (R330) -/
  | sra_atIXd_to_H (d : Byte)
  /-- SRA (IX+d) -> L (R330) -/
  | sra_atIXd_to_L (d : Byte)
  /-- SRA (IX+d) (R330) -/
  | sra_atIXd (d : Byte)
  /-- SRA (IX+d) -> A (R330) -/
  | sra_atIXd_to_A (d : Byte)
  /-- SLL (IX+d) -> B (R331) -/
  | sll_atIXd_to_B (d : Byte)
  /-- SLL (IX+d) -> C (R331) -/
  | sll_atIXd_to_C (d : Byte)
  /-- SLL (IX+d) -> D (R331) -/
  | sll_atIXd_to_D (d : Byte)
  /-- SLL (IX+d) -> E (R331) -/
  | sll_atIXd_to_E (d : Byte)
  /-- SLL (IX+d) -> H (R331) -/
  | sll_atIXd_to_H (d : Byte)
  /-- SLL (IX+d) -> L (R331) -/
  | sll_atIXd_to_L (d : Byte)
  /-- SLL (IX+d) (R331) -/
  | sll_atIXd (d : Byte)
  /-- SLL (IX+d) -> A (R331) -/
  | sll_atIXd_to_A (d : Byte)
  /-- SRL (IX+d) -> B (R332) -/
  | srl_atIXd_to_B (d : Byte)
  /-- SRL (IX+d) -> C (R332) -/
  | srl_atIXd_to_C (d : Byte)
  /-- SRL (IX+d) -> D (R332) -/
  | srl_atIXd_to_D (d : Byte)
  /-- SRL (IX+d) -> E (R332) -/
  | srl_atIXd_to_E (d : Byte)
  /-- SRL (IX+d) -> H (R332) -/
  | srl_atIXd_to_H (d : Byte)
  /-- SRL (IX+d) -> L (R332) -/
  | srl_atIXd_to_L (d : Byte)
  /-- SRL (IX+d) (R332) -/
  | srl_atIXd (d : Byte)
  /-- SRL (IX+d) -> A (R332) -/
  | srl_atIXd_to_A (d : Byte)
  /-- BIT 0,(IX+d) (R335) -/
  | bit_0_atIXd (d : Byte) (z : BitVec 3)
  /-- BIT 1,(IX+d) (R335) -/
  | bit_1_atIXd (d : Byte) (z : BitVec 3)
  /-- BIT 2,(IX+d) (R335) -/
  | bit_2_atIXd (d : Byte) (z : BitVec 3)
  /-- BIT 3,(IX+d) (R335) -/
  | bit_3_atIXd (d : Byte) (z : BitVec 3)
  /-- BIT 4,(IX+d) (R335) -/
  | bit_4_atIXd (d : Byte) (z : BitVec 3)
  /-- BIT 5,(IX+d) (R335) -/
  | bit_5_atIXd (d : Byte) (z : BitVec 3)
  /-- BIT 6,(IX+d) (R335) -/
  | bit_6_atIXd (d : Byte) (z : BitVec 3)
  /-- BIT 7,(IX+d) (R335) -/
  | bit_7_atIXd (d : Byte) (z : BitVec 3)
  /-- RES 0,(IX+d) -> B (R337) -/
  | res_0_atIXd_to_B (d : Byte)
  /-- RES 0,(IX+d) -> C (R337) -/
  | res_0_atIXd_to_C (d : Byte)
  /-- RES 0,(IX+d) -> D (R337) -/
  | res_0_atIXd_to_D (d : Byte)
  /-- RES 0,(IX+d) -> E (R337) -/
  | res_0_atIXd_to_E (d : Byte)
  /-- RES 0,(IX+d) -> H (R337) -/
  | res_0_atIXd_to_H (d : Byte)
  /-- RES 0,(IX+d) -> L (R337) -/
  | res_0_atIXd_to_L (d : Byte)
  /-- RES 0,(IX+d) (R337) -/
  | res_0_atIXd (d : Byte)
  /-- RES 0,(IX+d) -> A (R337) -/
  | res_0_atIXd_to_A (d : Byte)
  /-- RES 1,(IX+d) -> B (R337) -/
  | res_1_atIXd_to_B (d : Byte)
  /-- RES 1,(IX+d) -> C (R337) -/
  | res_1_atIXd_to_C (d : Byte)
  /-- RES 1,(IX+d) -> D (R337) -/
  | res_1_atIXd_to_D (d : Byte)
  /-- RES 1,(IX+d) -> E (R337) -/
  | res_1_atIXd_to_E (d : Byte)
  /-- RES 1,(IX+d) -> H (R337) -/
  | res_1_atIXd_to_H (d : Byte)
  /-- RES 1,(IX+d) -> L (R337) -/
  | res_1_atIXd_to_L (d : Byte)
  /-- RES 1,(IX+d) (R337) -/
  | res_1_atIXd (d : Byte)
  /-- RES 1,(IX+d) -> A (R337) -/
  | res_1_atIXd_to_A (d : Byte)
  /-- RES 2,(IX+d) -> B (R337) -/
  | res_2_atIXd_to_B (d : Byte)
  /-- RES 2,(IX+d) -> C (R337) -/
  | res_2_atIXd_to_C (d : Byte)
  /-- RES 2,(IX+d) -> D (R337) -/
  | res_2_atIXd_to_D (d : Byte)
  /-- RES 2,(IX+d) -> E (R337) -/
  | res_2_atIXd_to_E (d : Byte)
  /-- RES 2,(IX+d) -> H (R337) -/
  | res_2_atIXd_to_H (d : Byte)
  /-- RES 2,(IX+d) -> L (R337) -/
  | res_2_atIXd_to_L (d : Byte)
  /-- RES 2,(IX+d) (R337) -/
  | res_2_atIXd (d : Byte)
  /-- RES 2,(IX+d) -> A (R337) -/
  | res_2_atIXd_to_A (d : Byte)
  /-- RES 3,(IX+d) -> B (R337) -/
  | res_3_atIXd_to_B (d : Byte)
  /-- RES 3,(IX+d) -> C (R337) -/
  | res_3_atIXd_to_C (d : Byte)
  /-- RES 3,(IX+d) -> D (R337) -/
  | res_3_atIXd_to_D (d : Byte)
  /-- RES 3,(IX+d) -> E (R337) -/
  | res_3_atIXd_to_E (d : Byte)
  /-- RES 3,(IX+d) -> H (R337) -/
  | res_3_atIXd_to_H (d : Byte)
  /-- RES 3,(IX+d) -> L (R337) -/
  | res_3_atIXd_to_L (d : Byte)
  /-- RES 3,(IX+d) (R337) -/
  | res_3_atIXd (d : Byte)
  /-- RES 3,(IX+d) -> A (R337) -/
  | res_3_atIXd_to_A (d : Byte)
  /-- RES 4,(IX+d) -> B (R337) -/
  | res_4_atIXd_to_B (d : Byte)
  /-- RES 4,(IX+d) -> C (R337) -/
  | res_4_atIXd_to_C (d : Byte)
  /-- RES 4,(IX+d) -> D (R337) -/
  | res_4_atIXd_to_D (d : Byte)
  /-- RES 4,(IX+d) -> E (R337) -/
  | res_4_atIXd_to_E (d : Byte)
  /-- RES 4,(IX+d) -> H (R337) -/
  | res_4_atIXd_to_H (d : Byte)
  /-- RES 4,(IX+d) -> L (R337) -/
  | res_4_atIXd_to_L (d : Byte)
  /-- RES 4,(IX+d) (R337) -/
  | res_4_atIXd (d : Byte)
  /-- RES 4,(IX+d) -> A (R337) -/
  | res_4_atIXd_to_A (d : Byte)
  /-- RES 5,(IX+d) -> B (R337) -/
  | res_5_atIXd_to_B (d : Byte)
  /-- RES 5,(IX+d) -> C (R337) -/
  | res_5_atIXd_to_C (d : Byte)
  /-- RES 5,(IX+d) -> D (R337) -/
  | res_5_atIXd_to_D (d : Byte)
  /-- RES 5,(IX+d) -> E (R337) -/
  | res_5_atIXd_to_E (d : Byte)
  /-- RES 5,(IX+d) -> H (R337) -/
  | res_5_atIXd_to_H (d : Byte)
  /-- RES 5,(IX+d) -> L (R337) -/
  | res_5_atIXd_to_L (d : Byte)
  /-- RES 5,(IX+d) (R337) -/
  | res_5_atIXd (d : Byte)
  /-- RES 5,(IX+d) -> A (R337) -/
  | res_5_atIXd_to_A (d : Byte)
  /-- RES 6,(IX+d) -> B (R337) -/
  | res_6_atIXd_to_B (d : Byte)
  /-- RES 6,(IX+d) -> C (R337) -/
  | res_6_atIXd_to_C (d : Byte)
  /-- RES 6,(IX+d) -> D (R337) -/
  | res_6_atIXd_to_D (d : Byte)
  /-- RES 6,(IX+d) -> E (R337) -/
  | res_6_atIXd_to_E (d : Byte)
  /-- RES 6,(IX+d) -> H (R337) -/
  | res_6_atIXd_to_H (d : Byte)
  /-- RES 6,(IX+d) -> L (R337) -/
  | res_6_atIXd_to_L (d : Byte)
  /-- RES 6,(IX+d) (R337) -/
  | res_6_atIXd (d : Byte)
  /-- RES 6,(IX+d) -> A (R337) -/
  | res_6_atIXd_to_A (d : Byte)
  /-- RES 7,(IX+d) -> B (R337) -/
  | res_7_atIXd_to_B (d : Byte)
  /-- RES 7,(IX+d) -> C (R337) -/
  | res_7_atIXd_to_C (d : Byte)
  /-- RES 7,(IX+d) -> D (R337) -/
  | res_7_atIXd_to_D (d : Byte)
  /-- RES 7,(IX+d) -> E (R337) -/
  | res_7_atIXd_to_E (d : Byte)
  /-- RES 7,(IX+d) -> H (R337) -/
  | res_7_atIXd_to_H (d : Byte)
  /-- RES 7,(IX+d) -> L (R337) -/
  | res_7_atIXd_to_L (d : Byte)
  /-- RES 7,(IX+d) (R337) -/
  | res_7_atIXd (d : Byte)
  /-- RES 7,(IX+d) -> A (R337) -/
  | res_7_atIXd_to_A (d : Byte)
  /-- SET 0,(IX+d) -> B (R336) -/
  | set_0_atIXd_to_B (d : Byte)
  /-- SET 0,(IX+d) -> C (R336) -/
  | set_0_atIXd_to_C (d : Byte)
  /-- SET 0,(IX+d) -> D (R336) -/
  | set_0_atIXd_to_D (d : Byte)
  /-- SET 0,(IX+d) -> E (R336) -/
  | set_0_atIXd_to_E (d : Byte)
  /-- SET 0,(IX+d) -> H (R336) -/
  | set_0_atIXd_to_H (d : Byte)
  /-- SET 0,(IX+d) -> L (R336) -/
  | set_0_atIXd_to_L (d : Byte)
  /-- SET 0,(IX+d) (R336) -/
  | set_0_atIXd (d : Byte)
  /-- SET 0,(IX+d) -> A (R336) -/
  | set_0_atIXd_to_A (d : Byte)
  /-- SET 1,(IX+d) -> B (R336) -/
  | set_1_atIXd_to_B (d : Byte)
  /-- SET 1,(IX+d) -> C (R336) -/
  | set_1_atIXd_to_C (d : Byte)
  /-- SET 1,(IX+d) -> D (R336) -/
  | set_1_atIXd_to_D (d : Byte)
  /-- SET 1,(IX+d) -> E (R336) -/
  | set_1_atIXd_to_E (d : Byte)
  /-- SET 1,(IX+d) -> H (R336) -/
  | set_1_atIXd_to_H (d : Byte)
  /-- SET 1,(IX+d) -> L (R336) -/
  | set_1_atIXd_to_L (d : Byte)
  /-- SET 1,(IX+d) (R336) -/
  | set_1_atIXd (d : Byte)
  /-- SET 1,(IX+d) -> A (R336) -/
  | set_1_atIXd_to_A (d : Byte)
  /-- SET 2,(IX+d) -> B (R336) -/
  | set_2_atIXd_to_B (d : Byte)
  /-- SET 2,(IX+d) -> C (R336) -/
  | set_2_atIXd_to_C (d : Byte)
  /-- SET 2,(IX+d) -> D (R336) -/
  | set_2_atIXd_to_D (d : Byte)
  /-- SET 2,(IX+d) -> E (R336) -/
  | set_2_atIXd_to_E (d : Byte)
  /-- SET 2,(IX+d) -> H (R336) -/
  | set_2_atIXd_to_H (d : Byte)
  /-- SET 2,(IX+d) -> L (R336) -/
  | set_2_atIXd_to_L (d : Byte)
  /-- SET 2,(IX+d) (R336) -/
  | set_2_atIXd (d : Byte)
  /-- SET 2,(IX+d) -> A (R336) -/
  | set_2_atIXd_to_A (d : Byte)
  /-- SET 3,(IX+d) -> B (R336) -/
  | set_3_atIXd_to_B (d : Byte)
  /-- SET 3,(IX+d) -> C (R336) -/
  | set_3_atIXd_to_C (d : Byte)
  /-- SET 3,(IX+d) -> D (R336) -/
  | set_3_atIXd_to_D (d : Byte)
  /-- SET 3,(IX+d) -> E (R336) -/
  | set_3_atIXd_to_E (d : Byte)
  /-- SET 3,(IX+d) -> H (R336) -/
  | set_3_atIXd_to_H (d : Byte)
  /-- SET 3,(IX+d) -> L (R336) -/
  | set_3_atIXd_to_L (d : Byte)
  /-- SET 3,(IX+d) (R336) -/
  | set_3_atIXd (d : Byte)
  /-- SET 3,(IX+d) -> A (R336) -/
  | set_3_atIXd_to_A (d : Byte)
  /-- SET 4,(IX+d) -> B (R336) -/
  | set_4_atIXd_to_B (d : Byte)
  /-- SET 4,(IX+d) -> C (R336) -/
  | set_4_atIXd_to_C (d : Byte)
  /-- SET 4,(IX+d) -> D (R336) -/
  | set_4_atIXd_to_D (d : Byte)
  /-- SET 4,(IX+d) -> E (R336) -/
  | set_4_atIXd_to_E (d : Byte)
  /-- SET 4,(IX+d) -> H (R336) -/
  | set_4_atIXd_to_H (d : Byte)
  /-- SET 4,(IX+d) -> L (R336) -/
  | set_4_atIXd_to_L (d : Byte)
  /-- SET 4,(IX+d) (R336) -/
  | set_4_atIXd (d : Byte)
  /-- SET 4,(IX+d) -> A (R336) -/
  | set_4_atIXd_to_A (d : Byte)
  /-- SET 5,(IX+d) -> B (R336) -/
  | set_5_atIXd_to_B (d : Byte)
  /-- SET 5,(IX+d) -> C (R336) -/
  | set_5_atIXd_to_C (d : Byte)
  /-- SET 5,(IX+d) -> D (R336) -/
  | set_5_atIXd_to_D (d : Byte)
  /-- SET 5,(IX+d) -> E (R336) -/
  | set_5_atIXd_to_E (d : Byte)
  /-- SET 5,(IX+d) -> H (R336) -/
  | set_5_atIXd_to_H (d : Byte)
  /-- SET 5,(IX+d) -> L (R336) -/
  | set_5_atIXd_to_L (d : Byte)
  /-- SET 5,(IX+d) (R336) -/
  | set_5_atIXd (d : Byte)
  /-- SET 5,(IX+d) -> A (R336) -/
  | set_5_atIXd_to_A (d : Byte)
  /-- SET 6,(IX+d) -> B (R336) -/
  | set_6_atIXd_to_B (d : Byte)
  /-- SET 6,(IX+d) -> C (R336) -/
  | set_6_atIXd_to_C (d : Byte)
  /-- SET 6,(IX+d) -> D (R336) -/
  | set_6_atIXd_to_D (d : Byte)
  /-- SET 6,(IX+d) -> E (R336) -/
  | set_6_atIXd_to_E (d : Byte)
  /-- SET 6,(IX+d) -> H (R336) -/
  | set_6_atIXd_to_H (d : Byte)
  /-- SET 6,(IX+d) -> L (R336) -/
  | set_6_atIXd_to_L (d : Byte)
  /-- SET 6,(IX+d) (R336) -/
  | set_6_atIXd (d : Byte)
  /-- SET 6,(IX+d) -> A (R336) -/
  | set_6_atIXd_to_A (d : Byte)
  /-- SET 7,(IX+d) -> B (R336) -/
  | set_7_atIXd_to_B (d : Byte)
  /-- SET 7,(IX+d) -> C (R336) -/
  | set_7_atIXd_to_C (d : Byte)
  /-- SET 7,(IX+d) -> D (R336) -/
  | set_7_atIXd_to_D (d : Byte)
  /-- SET 7,(IX+d) -> E (R336) -/
  | set_7_atIXd_to_E (d : Byte)
  /-- SET 7,(IX+d) -> H (R336) -/
  | set_7_atIXd_to_H (d : Byte)
  /-- SET 7,(IX+d) -> L (R336) -/
  | set_7_atIXd_to_L (d : Byte)
  /-- SET 7,(IX+d) (R336) -/
  | set_7_atIXd (d : Byte)
  /-- SET 7,(IX+d) -> A (R336) -/
  | set_7_atIXd_to_A (d : Byte)
  /-- POP IX (R253) -/
  | pop_IX
  /-- EX (SP),IX (R258) -/
  | ex_atSP_IX
  /-- PUSH IX (R251) -/
  | push_IX
  /-- JP (IX) (R365) -/
  | jp_atIX
  /-- LD SP,IX (R249) -/
  | ld_SP_IX
  /-- ADD IY,BC (R303) -/
  | add_IY_BC
  /-- ADD IY,DE (R303) -/
  | add_IY_DE
  /-- LD IY,nn (R241) -/
  | ld_IY_nn (nn : Word)
  /-- LD (nn),IY (R247) -/
  | ld_atnn_IY (nn : Word)
  /-- INC IY (R305) -/
  | inc_IY
  /-- INC IYH (R279) -/
  | inc_IYH
  /-- DEC IYH (R282) -/
  | dec_IYH
  /-- LD IYH,n (R219) -/
  | ld_IYH_n (n : Byte)
  /-- ADD IY,IY (R303) -/
  | add_IY_IY
  /-- LD IY,(nn) (R244) -/
  | ld_IY_atnn (nn : Word)
  /-- DEC IY (R307) -/
  | dec_IY
  /-- INC IYL (R279) -/
  | inc_IYL
  /-- DEC IYL (R282) -/
  | dec_IYL
  /-- LD IYL,n (R219) -/
  | ld_IYL_n (n : Byte)
  /-- INC (IY+d) (R281) -/
  | inc_atIYd (d : Byte)
  /-- DEC (IY+d) (R284) -/
  | dec_atIYd (d : Byte)
  /-- LD (IY+d),n (R207) -/
  | ld_atIYd_n (d : Byte) (n : Byte)
  /-- ADD IY,SP (R303) -/
  | add_IY_SP
  /-- LD B,IYH (R218) -/
  | ld_B_IYH
  /-- LD B,IYL (R218) -/
  | ld_B_IYL
  /-- LD B,(IY+d) (R205) -/
  | ld_B_atIYd (d : Byte)
  /-- LD C,IYH (R218) -/
  | ld_C_IYH
  /-- LD C,IYL (R218) -/
  | ld_C_IYL
  /-- LD C,(IY+d) (R205) -/
  | ld_C_atIYd (d : Byte)
  /-- LD D,IYH (R218) -/
  | ld_D_IYH
  /-- LD D,IYL (R218) -/
  | ld_D_IYL
  /-- LD D,(IY+d) (R205) -/
  | ld_D_atIYd (d : Byte)
  /-- LD E,IYH (R218) -/
  | ld_E_IYH
  /-- LD E,IYL (R218) -/
  | ld_E_IYL
  /-- LD E,(IY+d) (R205) -/
  | ld_E_atIYd (d : Byte)
  /-- LD IYH,B (R218) -/
  | ld_IYH_B
  /-- LD IYH,C (R218) -/
  | ld_IYH_C
  /-- LD IYH,D (R218) -/
  | ld_IYH_D
  /-- LD IYH,E (R218) -/
  | ld_IYH_E
  /-- LD IYH,IYH (R218) -/
  | ld_IYH_IYH
  /-- LD IYH,IYL (R218) -/
  | ld_IYH_IYL
  /-- LD H,(IY+d) (R205) -/
  | ld_H_atIYd (d : Byte)
  /-- LD IYH,A (R218) -/
  | ld_IYH_A
  /-- LD IYL,B (R218) -/
  | ld_IYL_B
  /-- LD IYL,C (R218) -/
  | ld_IYL_C
  /-- LD IYL,D (R218) -/
  | ld_IYL_D
  /-- LD IYL,E (R218) -/
  | ld_IYL_E
  /-- LD IYL,IYH (R218) -/
  | ld_IYL_IYH
  /-- LD IYL,IYL (R218) -/
  | ld_IYL_IYL
  /-- LD L,(IY+d) (R205) -/
  | ld_L_atIYd (d : Byte)
  /-- LD IYL,A (R218) -/
  | ld_IYL_A
  /-- LD (IY+d),B (R206) -/
  | ld_atIYd_B (d : Byte)
  /-- LD (IY+d),C (R206) -/
  | ld_atIYd_C (d : Byte)
  /-- LD (IY+d),D (R206) -/
  | ld_atIYd_D (d : Byte)
  /-- LD (IY+d),E (R206) -/
  | ld_atIYd_E (d : Byte)
  /-- LD (IY+d),H (R206) -/
  | ld_atIYd_H (d : Byte)
  /-- LD (IY+d),L (R206) -/
  | ld_atIYd_L (d : Byte)
  /-- LD (IY+d),A (R206) -/
  | ld_atIYd_A (d : Byte)
  /-- LD A,IYH (R218) -/
  | ld_A_IYH
  /-- LD A,IYL (R218) -/
  | ld_A_IYL
  /-- LD A,(IY+d) (R205) -/
  | ld_A_atIYd (d : Byte)
  /-- ADD A,IYH (R271) -/
  | add_A_IYH
  /-- ADD A,IYL (R271) -/
  | add_A_IYL
  /-- ADD A,(IY+d) (R271) -/
  | add_A_atIYd (d : Byte)
  /-- ADC A,IYH (R272) -/
  | adc_A_IYH
  /-- ADC A,IYL (R272) -/
  | adc_A_IYL
  /-- ADC A,(IY+d) (R272) -/
  | adc_A_atIYd (d : Byte)
  /-- SUB IYH (R273) -/
  | sub_IYH
  /-- SUB IYL (R273) -/
  | sub_IYL
  /-- SUB (IY+d) (R273) -/
  | sub_atIYd (d : Byte)
  /-- SBC A,IYH (R274) -/
  | sbc_A_IYH
  /-- SBC A,IYL (R274) -/
  | sbc_A_IYL
  /-- SBC A,(IY+d) (R274) -/
  | sbc_A_atIYd (d : Byte)
  /-- AND IYH (R275) -/
  | and_IYH
  /-- AND IYL (R275) -/
  | and_IYL
  /-- AND (IY+d) (R275) -/
  | and_atIYd (d : Byte)
  /-- XOR IYH (R276) -/
  | xor_IYH
  /-- XOR IYL (R276) -/
  | xor_IYL
  /-- XOR (IY+d) (R276) -/
  | xor_atIYd (d : Byte)
  /-- OR IYH (R277) -/
  | or_IYH
  /-- OR IYL (R277) -/
  | or_IYL
  /-- OR (IY+d) (R277) -/
  | or_atIYd (d : Byte)
  /-- CP IYH (R278) -/
  | cp_IYH
  /-- CP IYL (R278) -/
  | cp_IYL
  /-- CP (IY+d) (R278) -/
  | cp_atIYd (d : Byte)
  /-- RLC (IY+d) -> B (R325) -/
  | rlc_atIYd_to_B (d : Byte)
  /-- RLC (IY+d) -> C (R325) -/
  | rlc_atIYd_to_C (d : Byte)
  /-- RLC (IY+d) -> D (R325) -/
  | rlc_atIYd_to_D (d : Byte)
  /-- RLC (IY+d) -> E (R325) -/
  | rlc_atIYd_to_E (d : Byte)
  /-- RLC (IY+d) -> H (R325) -/
  | rlc_atIYd_to_H (d : Byte)
  /-- RLC (IY+d) -> L (R325) -/
  | rlc_atIYd_to_L (d : Byte)
  /-- RLC (IY+d) (R325) -/
  | rlc_atIYd (d : Byte)
  /-- RLC (IY+d) -> A (R325) -/
  | rlc_atIYd_to_A (d : Byte)
  /-- RRC (IY+d) -> B (R326) -/
  | rrc_atIYd_to_B (d : Byte)
  /-- RRC (IY+d) -> C (R326) -/
  | rrc_atIYd_to_C (d : Byte)
  /-- RRC (IY+d) -> D (R326) -/
  | rrc_atIYd_to_D (d : Byte)
  /-- RRC (IY+d) -> E (R326) -/
  | rrc_atIYd_to_E (d : Byte)
  /-- RRC (IY+d) -> H (R326) -/
  | rrc_atIYd_to_H (d : Byte)
  /-- RRC (IY+d) -> L (R326) -/
  | rrc_atIYd_to_L (d : Byte)
  /-- RRC (IY+d) (R326) -/
  | rrc_atIYd (d : Byte)
  /-- RRC (IY+d) -> A (R326) -/
  | rrc_atIYd_to_A (d : Byte)
  /-- RL (IY+d) -> B (R327) -/
  | rl_atIYd_to_B (d : Byte)
  /-- RL (IY+d) -> C (R327) -/
  | rl_atIYd_to_C (d : Byte)
  /-- RL (IY+d) -> D (R327) -/
  | rl_atIYd_to_D (d : Byte)
  /-- RL (IY+d) -> E (R327) -/
  | rl_atIYd_to_E (d : Byte)
  /-- RL (IY+d) -> H (R327) -/
  | rl_atIYd_to_H (d : Byte)
  /-- RL (IY+d) -> L (R327) -/
  | rl_atIYd_to_L (d : Byte)
  /-- RL (IY+d) (R327) -/
  | rl_atIYd (d : Byte)
  /-- RL (IY+d) -> A (R327) -/
  | rl_atIYd_to_A (d : Byte)
  /-- RR (IY+d) -> B (R328) -/
  | rr_atIYd_to_B (d : Byte)
  /-- RR (IY+d) -> C (R328) -/
  | rr_atIYd_to_C (d : Byte)
  /-- RR (IY+d) -> D (R328) -/
  | rr_atIYd_to_D (d : Byte)
  /-- RR (IY+d) -> E (R328) -/
  | rr_atIYd_to_E (d : Byte)
  /-- RR (IY+d) -> H (R328) -/
  | rr_atIYd_to_H (d : Byte)
  /-- RR (IY+d) -> L (R328) -/
  | rr_atIYd_to_L (d : Byte)
  /-- RR (IY+d) (R328) -/
  | rr_atIYd (d : Byte)
  /-- RR (IY+d) -> A (R328) -/
  | rr_atIYd_to_A (d : Byte)
  /-- SLA (IY+d) -> B (R329) -/
  | sla_atIYd_to_B (d : Byte)
  /-- SLA (IY+d) -> C (R329) -/
  | sla_atIYd_to_C (d : Byte)
  /-- SLA (IY+d) -> D (R329) -/
  | sla_atIYd_to_D (d : Byte)
  /-- SLA (IY+d) -> E (R329) -/
  | sla_atIYd_to_E (d : Byte)
  /-- SLA (IY+d) -> H (R329) -/
  | sla_atIYd_to_H (d : Byte)
  /-- SLA (IY+d) -> L (R329) -/
  | sla_atIYd_to_L (d : Byte)
  /-- SLA (IY+d) (R329) -/
  | sla_atIYd (d : Byte)
  /-- SLA (IY+d) -> A (R329) -/
  | sla_atIYd_to_A (d : Byte)
  /-- SRA (IY+d) -> B (R330) -/
  | sra_atIYd_to_B (d : Byte)
  /-- SRA (IY+d) -> C (R330) -/
  | sra_atIYd_to_C (d : Byte)
  /-- SRA (IY+d) -> D (R330) -/
  | sra_atIYd_to_D (d : Byte)
  /-- SRA (IY+d) -> E (R330) -/
  | sra_atIYd_to_E (d : Byte)
  /-- SRA (IY+d) -> H (R330) -/
  | sra_atIYd_to_H (d : Byte)
  /-- SRA (IY+d) -> L (R330) -/
  | sra_atIYd_to_L (d : Byte)
  /-- SRA (IY+d) (R330) -/
  | sra_atIYd (d : Byte)
  /-- SRA (IY+d) -> A (R330) -/
  | sra_atIYd_to_A (d : Byte)
  /-- SLL (IY+d) -> B (R331) -/
  | sll_atIYd_to_B (d : Byte)
  /-- SLL (IY+d) -> C (R331) -/
  | sll_atIYd_to_C (d : Byte)
  /-- SLL (IY+d) -> D (R331) -/
  | sll_atIYd_to_D (d : Byte)
  /-- SLL (IY+d) -> E (R331) -/
  | sll_atIYd_to_E (d : Byte)
  /-- SLL (IY+d) -> H (R331) -/
  | sll_atIYd_to_H (d : Byte)
  /-- SLL (IY+d) -> L (R331) -/
  | sll_atIYd_to_L (d : Byte)
  /-- SLL (IY+d) (R331) -/
  | sll_atIYd (d : Byte)
  /-- SLL (IY+d) -> A (R331) -/
  | sll_atIYd_to_A (d : Byte)
  /-- SRL (IY+d) -> B (R332) -/
  | srl_atIYd_to_B (d : Byte)
  /-- SRL (IY+d) -> C (R332) -/
  | srl_atIYd_to_C (d : Byte)
  /-- SRL (IY+d) -> D (R332) -/
  | srl_atIYd_to_D (d : Byte)
  /-- SRL (IY+d) -> E (R332) -/
  | srl_atIYd_to_E (d : Byte)
  /-- SRL (IY+d) -> H (R332) -/
  | srl_atIYd_to_H (d : Byte)
  /-- SRL (IY+d) -> L (R332) -/
  | srl_atIYd_to_L (d : Byte)
  /-- SRL (IY+d) (R332) -/
  | srl_atIYd (d : Byte)
  /-- SRL (IY+d) -> A (R332) -/
  | srl_atIYd_to_A (d : Byte)
  /-- BIT 0,(IY+d) (R335) -/
  | bit_0_atIYd (d : Byte) (z : BitVec 3)
  /-- BIT 1,(IY+d) (R335) -/
  | bit_1_atIYd (d : Byte) (z : BitVec 3)
  /-- BIT 2,(IY+d) (R335) -/
  | bit_2_atIYd (d : Byte) (z : BitVec 3)
  /-- BIT 3,(IY+d) (R335) -/
  | bit_3_atIYd (d : Byte) (z : BitVec 3)
  /-- BIT 4,(IY+d) (R335) -/
  | bit_4_atIYd (d : Byte) (z : BitVec 3)
  /-- BIT 5,(IY+d) (R335) -/
  | bit_5_atIYd (d : Byte) (z : BitVec 3)
  /-- BIT 6,(IY+d) (R335) -/
  | bit_6_atIYd (d : Byte) (z : BitVec 3)
  /-- BIT 7,(IY+d) (R335) -/
  | bit_7_atIYd (d : Byte) (z : BitVec 3)
  /-- RES 0,(IY+d) -> B (R337) -/
  | res_0_atIYd_to_B (d : Byte)
  /-- RES 0,(IY+d) -> C (R337) -/
  | res_0_atIYd_to_C (d : Byte)
  /-- RES 0,(IY+d) -> D (R337) -/
  | res_0_atIYd_to_D (d : Byte)
  /-- RES 0,(IY+d) -> E (R337) -/
  | res_0_atIYd_to_E (d : Byte)
  /-- RES 0,(IY+d) -> H (R337) -/
  | res_0_atIYd_to_H (d : Byte)
  /-- RES 0,(IY+d) -> L (R337) -/
  | res_0_atIYd_to_L (d : Byte)
  /-- RES 0,(IY+d) (R337) -/
  | res_0_atIYd (d : Byte)
  /-- RES 0,(IY+d) -> A (R337) -/
  | res_0_atIYd_to_A (d : Byte)
  /-- RES 1,(IY+d) -> B (R337) -/
  | res_1_atIYd_to_B (d : Byte)
  /-- RES 1,(IY+d) -> C (R337) -/
  | res_1_atIYd_to_C (d : Byte)
  /-- RES 1,(IY+d) -> D (R337) -/
  | res_1_atIYd_to_D (d : Byte)
  /-- RES 1,(IY+d) -> E (R337) -/
  | res_1_atIYd_to_E (d : Byte)
  /-- RES 1,(IY+d) -> H (R337) -/
  | res_1_atIYd_to_H (d : Byte)
  /-- RES 1,(IY+d) -> L (R337) -/
  | res_1_atIYd_to_L (d : Byte)
  /-- RES 1,(IY+d) (R337) -/
  | res_1_atIYd (d : Byte)
  /-- RES 1,(IY+d) -> A (R337) -/
  | res_1_atIYd_to_A (d : Byte)
  /-- RES 2,(IY+d) -> B (R337) -/
  | res_2_atIYd_to_B (d : Byte)
  /-- RES 2,(IY+d) -> C (R337) -/
  | res_2_atIYd_to_C (d : Byte)
  /-- RES 2,(IY+d) -> D (R337) -/
  | res_2_atIYd_to_D (d : Byte)
  /-- RES 2,(IY+d) -> E (R337) -/
  | res_2_atIYd_to_E (d : Byte)
  /-- RES 2,(IY+d) -> H (R337) -/
  | res_2_atIYd_to_H (d : Byte)
  /-- RES 2,(IY+d) -> L (R337) -/
  | res_2_atIYd_to_L (d : Byte)
  /-- RES 2,(IY+d) (R337) -/
  | res_2_atIYd (d : Byte)
  /-- RES 2,(IY+d) -> A (R337) -/
  | res_2_atIYd_to_A (d : Byte)
  /-- RES 3,(IY+d) -> B (R337) -/
  | res_3_atIYd_to_B (d : Byte)
  /-- RES 3,(IY+d) -> C (R337) -/
  | res_3_atIYd_to_C (d : Byte)
  /-- RES 3,(IY+d) -> D (R337) -/
  | res_3_atIYd_to_D (d : Byte)
  /-- RES 3,(IY+d) -> E (R337) -/
  | res_3_atIYd_to_E (d : Byte)
  /-- RES 3,(IY+d) -> H (R337) -/
  | res_3_atIYd_to_H (d : Byte)
  /-- RES 3,(IY+d) -> L (R337) -/
  | res_3_atIYd_to_L (d : Byte)
  /-- RES 3,(IY+d) (R337) -/
  | res_3_atIYd (d : Byte)
  /-- RES 3,(IY+d) -> A (R337) -/
  | res_3_atIYd_to_A (d : Byte)
  /-- RES 4,(IY+d) -> B (R337) -/
  | res_4_atIYd_to_B (d : Byte)
  /-- RES 4,(IY+d) -> C (R337) -/
  | res_4_atIYd_to_C (d : Byte)
  /-- RES 4,(IY+d) -> D (R337) -/
  | res_4_atIYd_to_D (d : Byte)
  /-- RES 4,(IY+d) -> E (R337) -/
  | res_4_atIYd_to_E (d : Byte)
  /-- RES 4,(IY+d) -> H (R337) -/
  | res_4_atIYd_to_H (d : Byte)
  /-- RES 4,(IY+d) -> L (R337) -/
  | res_4_atIYd_to_L (d : Byte)
  /-- RES 4,(IY+d) (R337) -/
  | res_4_atIYd (d : Byte)
  /-- RES 4,(IY+d) -> A (R337) -/
  | res_4_atIYd_to_A (d : Byte)
  /-- RES 5,(IY+d) -> B (R337) -/
  | res_5_atIYd_to_B (d : Byte)
  /-- RES 5,(IY+d) -> C (R337) -/
  | res_5_atIYd_to_C (d : Byte)
  /-- RES 5,(IY+d) -> D (R337) -/
  | res_5_atIYd_to_D (d : Byte)
  /-- RES 5,(IY+d) -> E (R337) -/
  | res_5_atIYd_to_E (d : Byte)
  /-- RES 5,(IY+d) -> H (R337) -/
  | res_5_atIYd_to_H (d : Byte)
  /-- RES 5,(IY+d) -> L (R337) -/
  | res_5_atIYd_to_L (d : Byte)
  /-- RES 5,(IY+d) (R337) -/
  | res_5_atIYd (d : Byte)
  /-- RES 5,(IY+d) -> A (R337) -/
  | res_5_atIYd_to_A (d : Byte)
  /-- RES 6,(IY+d) -> B (R337) -/
  | res_6_atIYd_to_B (d : Byte)
  /-- RES 6,(IY+d) -> C (R337) -/
  | res_6_atIYd_to_C (d : Byte)
  /-- RES 6,(IY+d) -> D (R337) -/
  | res_6_atIYd_to_D (d : Byte)
  /-- RES 6,(IY+d) -> E (R337) -/
  | res_6_atIYd_to_E (d : Byte)
  /-- RES 6,(IY+d) -> H (R337) -/
  | res_6_atIYd_to_H (d : Byte)
  /-- RES 6,(IY+d) -> L (R337) -/
  | res_6_atIYd_to_L (d : Byte)
  /-- RES 6,(IY+d) (R337) -/
  | res_6_atIYd (d : Byte)
  /-- RES 6,(IY+d) -> A (R337) -/
  | res_6_atIYd_to_A (d : Byte)
  /-- RES 7,(IY+d) -> B (R337) -/
  | res_7_atIYd_to_B (d : Byte)
  /-- RES 7,(IY+d) -> C (R337) -/
  | res_7_atIYd_to_C (d : Byte)
  /-- RES 7,(IY+d) -> D (R337) -/
  | res_7_atIYd_to_D (d : Byte)
  /-- RES 7,(IY+d) -> E (R337) -/
  | res_7_atIYd_to_E (d : Byte)
  /-- RES 7,(IY+d) -> H (R337) -/
  | res_7_atIYd_to_H (d : Byte)
  /-- RES 7,(IY+d) -> L (R337) -/
  | res_7_atIYd_to_L (d : Byte)
  /-- RES 7,(IY+d) (R337) -/
  | res_7_atIYd (d : Byte)
  /-- RES 7,(IY+d) -> A (R337) -/
  | res_7_atIYd_to_A (d : Byte)
  /-- SET 0,(IY+d) -> B (R336) -/
  | set_0_atIYd_to_B (d : Byte)
  /-- SET 0,(IY+d) -> C (R336) -/
  | set_0_atIYd_to_C (d : Byte)
  /-- SET 0,(IY+d) -> D (R336) -/
  | set_0_atIYd_to_D (d : Byte)
  /-- SET 0,(IY+d) -> E (R336) -/
  | set_0_atIYd_to_E (d : Byte)
  /-- SET 0,(IY+d) -> H (R336) -/
  | set_0_atIYd_to_H (d : Byte)
  /-- SET 0,(IY+d) -> L (R336) -/
  | set_0_atIYd_to_L (d : Byte)
  /-- SET 0,(IY+d) (R336) -/
  | set_0_atIYd (d : Byte)
  /-- SET 0,(IY+d) -> A (R336) -/
  | set_0_atIYd_to_A (d : Byte)
  /-- SET 1,(IY+d) -> B (R336) -/
  | set_1_atIYd_to_B (d : Byte)
  /-- SET 1,(IY+d) -> C (R336) -/
  | set_1_atIYd_to_C (d : Byte)
  /-- SET 1,(IY+d) -> D (R336) -/
  | set_1_atIYd_to_D (d : Byte)
  /-- SET 1,(IY+d) -> E (R336) -/
  | set_1_atIYd_to_E (d : Byte)
  /-- SET 1,(IY+d) -> H (R336) -/
  | set_1_atIYd_to_H (d : Byte)
  /-- SET 1,(IY+d) -> L (R336) -/
  | set_1_atIYd_to_L (d : Byte)
  /-- SET 1,(IY+d) (R336) -/
  | set_1_atIYd (d : Byte)
  /-- SET 1,(IY+d) -> A (R336) -/
  | set_1_atIYd_to_A (d : Byte)
  /-- SET 2,(IY+d) -> B (R336) -/
  | set_2_atIYd_to_B (d : Byte)
  /-- SET 2,(IY+d) -> C (R336) -/
  | set_2_atIYd_to_C (d : Byte)
  /-- SET 2,(IY+d) -> D (R336) -/
  | set_2_atIYd_to_D (d : Byte)
  /-- SET 2,(IY+d) -> E (R336) -/
  | set_2_atIYd_to_E (d : Byte)
  /-- SET 2,(IY+d) -> H (R336) -/
  | set_2_atIYd_to_H (d : Byte)
  /-- SET 2,(IY+d) -> L (R336) -/
  | set_2_atIYd_to_L (d : Byte)
  /-- SET 2,(IY+d) (R336) -/
  | set_2_atIYd (d : Byte)
  /-- SET 2,(IY+d) -> A (R336) -/
  | set_2_atIYd_to_A (d : Byte)
  /-- SET 3,(IY+d) -> B (R336) -/
  | set_3_atIYd_to_B (d : Byte)
  /-- SET 3,(IY+d) -> C (R336) -/
  | set_3_atIYd_to_C (d : Byte)
  /-- SET 3,(IY+d) -> D (R336) -/
  | set_3_atIYd_to_D (d : Byte)
  /-- SET 3,(IY+d) -> E (R336) -/
  | set_3_atIYd_to_E (d : Byte)
  /-- SET 3,(IY+d) -> H (R336) -/
  | set_3_atIYd_to_H (d : Byte)
  /-- SET 3,(IY+d) -> L (R336) -/
  | set_3_atIYd_to_L (d : Byte)
  /-- SET 3,(IY+d) (R336) -/
  | set_3_atIYd (d : Byte)
  /-- SET 3,(IY+d) -> A (R336) -/
  | set_3_atIYd_to_A (d : Byte)
  /-- SET 4,(IY+d) -> B (R336) -/
  | set_4_atIYd_to_B (d : Byte)
  /-- SET 4,(IY+d) -> C (R336) -/
  | set_4_atIYd_to_C (d : Byte)
  /-- SET 4,(IY+d) -> D (R336) -/
  | set_4_atIYd_to_D (d : Byte)
  /-- SET 4,(IY+d) -> E (R336) -/
  | set_4_atIYd_to_E (d : Byte)
  /-- SET 4,(IY+d) -> H (R336) -/
  | set_4_atIYd_to_H (d : Byte)
  /-- SET 4,(IY+d) -> L (R336) -/
  | set_4_atIYd_to_L (d : Byte)
  /-- SET 4,(IY+d) (R336) -/
  | set_4_atIYd (d : Byte)
  /-- SET 4,(IY+d) -> A (R336) -/
  | set_4_atIYd_to_A (d : Byte)
  /-- SET 5,(IY+d) -> B (R336) -/
  | set_5_atIYd_to_B (d : Byte)
  /-- SET 5,(IY+d) -> C (R336) -/
  | set_5_atIYd_to_C (d : Byte)
  /-- SET 5,(IY+d) -> D (R336) -/
  | set_5_atIYd_to_D (d : Byte)
  /-- SET 5,(IY+d) -> E (R336) -/
  | set_5_atIYd_to_E (d : Byte)
  /-- SET 5,(IY+d) -> H (R336) -/
  | set_5_atIYd_to_H (d : Byte)
  /-- SET 5,(IY+d) -> L (R336) -/
  | set_5_atIYd_to_L (d : Byte)
  /-- SET 5,(IY+d) (R336) -/
  | set_5_atIYd (d : Byte)
  /-- SET 5,(IY+d) -> A (R336) -/
  | set_5_atIYd_to_A (d : Byte)
  /-- SET 6,(IY+d) -> B (R336) -/
  | set_6_atIYd_to_B (d : Byte)
  /-- SET 6,(IY+d) -> C (R336) -/
  | set_6_atIYd_to_C (d : Byte)
  /-- SET 6,(IY+d) -> D (R336) -/
  | set_6_atIYd_to_D (d : Byte)
  /-- SET 6,(IY+d) -> E (R336) -/
  | set_6_atIYd_to_E (d : Byte)
  /-- SET 6,(IY+d) -> H (R336) -/
  | set_6_atIYd_to_H (d : Byte)
  /-- SET 6,(IY+d) -> L (R336) -/
  | set_6_atIYd_to_L (d : Byte)
  /-- SET 6,(IY+d) (R336) -/
  | set_6_atIYd (d : Byte)
  /-- SET 6,(IY+d) -> A (R336) -/
  | set_6_atIYd_to_A (d : Byte)
  /-- SET 7,(IY+d) -> B (R336) -/
  | set_7_atIYd_to_B (d : Byte)
  /-- SET 7,(IY+d) -> C (R336) -/
  | set_7_atIYd_to_C (d : Byte)
  /-- SET 7,(IY+d) -> D (R336) -/
  | set_7_atIYd_to_D (d : Byte)
  /-- SET 7,(IY+d) -> E (R336) -/
  | set_7_atIYd_to_E (d : Byte)
  /-- SET 7,(IY+d) -> H (R336) -/
  | set_7_atIYd_to_H (d : Byte)
  /-- SET 7,(IY+d) -> L (R336) -/
  | set_7_atIYd_to_L (d : Byte)
  /-- SET 7,(IY+d) (R336) -/
  | set_7_atIYd (d : Byte)
  /-- SET 7,(IY+d) -> A (R336) -/
  | set_7_atIYd_to_A (d : Byte)
  /-- POP IY (R253) -/
  | pop_IY
  /-- EX (SP),IY (R258) -/
  | ex_atSP_IY
  /-- PUSH IY (R251) -/
  | push_IY
  /-- JP (IY) (R365) -/
  | jp_atIY
  /-- LD SP,IY (R249) -/
  | ld_SP_IY
  /-- an undefined ED, DD or FD opcode (R126) -/
  | invalid (p : OpPrefix) (op : Byte)
  deriving DecidableEq, Repr

end Sys2Proof
end

