-- ==== Sys2Proof/WellFormed.lean ====
section
/-! DEFINITION. Which instructions are well-formed: only `invalid` has an operand that not every value fits. -/

namespace Sys2Proof

/-- The 58 defined ED opcodes (R124). -/
def definedED : List Byte :=
  [0x40, 0x41, 0x42, 0x43, 0x44, 0x45, 0x46, 0x47, 0x48, 0x49, 0x4A, 0x4B, 0x4D, 0x4F, 0x50, 0x51]
    ++ [0x52, 0x53, 0x56, 0x57, 0x58, 0x59, 0x5A, 0x5B, 0x5E, 0x5F, 0x60, 0x61, 0x62, 0x63, 0x67, 0x68]
    ++ [0x69, 0x6A, 0x6B, 0x6F, 0x72, 0x73, 0x78, 0x79, 0x7A, 0x7B, 0xA0, 0xA1, 0xA2, 0xA3, 0xA8, 0xA9]
    ++ [0xAA, 0xAB, 0xB0, 0xB1, 0xB2, 0xB3, 0xB8, 0xB9, 0xBA, 0xBB]

/-- The 85 defined DD and FD opcodes, without the prefix chain 0xCB (R125). -/
def definedXY : List Byte :=
  [0x09, 0x19, 0x21, 0x22, 0x23, 0x24, 0x25, 0x26, 0x29, 0x2A, 0x2B, 0x2C, 0x2D, 0x2E, 0x34, 0x35]
    ++ [0x36, 0x39, 0x44, 0x45, 0x46, 0x4C, 0x4D, 0x4E, 0x54, 0x55, 0x56, 0x5C, 0x5D, 0x5E, 0x60, 0x61]
    ++ [0x62, 0x63, 0x64, 0x65, 0x66, 0x67, 0x68, 0x69, 0x6A, 0x6B, 0x6C, 0x6D, 0x6E, 0x6F, 0x70, 0x71]
    ++ [0x72, 0x73, 0x74, 0x75, 0x77, 0x7C, 0x7D, 0x7E, 0x84, 0x85, 0x86, 0x8C, 0x8D, 0x8E, 0x94, 0x95]
    ++ [0x96, 0x9C, 0x9D, 0x9E, 0xA4, 0xA5, 0xA6, 0xAC, 0xAD, 0xAE, 0xB4, 0xB5, 0xB6, 0xBC, 0xBD, 0xBE]
    ++ [0xE1, 0xE3, 0xE5, 0xE9, 0xF9]

/-- Is the opcode defined after the prefix (R126)? The second byte 0xCB of DD and FD begins the prefix chain. -/
def definedAfter (p : OpPrefix) (op : Byte) : Bool :=
  match p with
  | .ED => definedED.contains op
  | .DD | .FD => definedXY.contains op || op == 0xCB

/-- An instruction is well-formed: the operand fields admit every value, and an `invalid` names an undefined opcode. -/
def Instr.wellFormed (i : Instr) : Bool :=
  match i with
  | .invalid p op => !definedAfter p op
  | _ => true

end Sys2Proof
end

