-- ==== Sys2Proof/Decode.lean ====
section
/-! DEFINITION. Decoding (30_encoding.md, R110 to R126), total on any bytes, and after it the encoder.

The decoder reads an instruction byte by byte through a fetch function, in increasing position and only as many bytes as
it needs (R111, R78), and answers a `Form`: the operation with its operand fields. `Form.toInstr` names the constructor of
`Instr` that stands for the form; the two are in one-to-one correspondence. -/

namespace Sys2Proof

/-- An instruction as its operation and the operands its fields select. -/
inductive Form where
  /-- R200 -/
  | ldRegReg (d r : Reg8)
  /-- R201 -/
  | ldRegImm (d : Reg8) (n : Byte)
  /-- R202 -/
  | ldRegMem (d : Reg8)
  /-- R203 -/
  | ldMemReg (r : Reg8)
  /-- R204 -/
  | ldMemImm (n : Byte)
  /-- R205 -/
  | ldRegIdx (r : Reg8) (x : Index) (d : Byte)
  /-- R206 -/
  | ldIdxReg (x : Index) (d : Byte) (r : Reg8)
  /-- R207 -/
  | ldIdxImm (x : Index) (d n : Byte)
  /-- R208, R209 -/
  | ldAccInd (p : AccPointer)
  /-- R210, R211 -/
  | ldIndAcc (p : AccPointer)
  /-- R212 -/
  | ldAccAbs (nn : Word)
  /-- R213 -/
  | ldAbsAcc (nn : Word)
  /-- R214, R215 -/
  | ldAccSpecial (q : SpecialReg)
  /-- R216, R217 -/
  | ldSpecialAcc (q : SpecialReg)
  /-- R218: LD r,xyH and LD r,xyL -/
  | ldRegHalf (d : PlainReg) (x : Index) (h : Half)
  /-- R218: LD xyH,r and LD xyL,r -/
  | ldHalfReg (x : Index) (h : Half) (r : PlainReg)
  /-- R218: between two halves of one index register -/
  | ldHalfHalf (x : Index) (h h' : Half)
  /-- R219 -/
  | ldHalfImm (x : Index) (h : Half) (n : Byte)
  /-- R240 -/
  | ldPairImm (p : Pair) (nn : Word)
  /-- R241 -/
  | ldIndexImm (x : Index) (nn : Word)
  /-- R242 -/
  | ldHlAbs (nn : Word)
  /-- R243 -/
  | ldPairAbs (p : Pair) (nn : Word)
  /-- R244 -/
  | ldIndexAbs (x : Index) (nn : Word)
  /-- R245 -/
  | ldAbsHl (nn : Word)
  /-- R246 -/
  | ldAbsPair (p : Pair) (nn : Word)
  /-- R247 -/
  | ldAbsIndex (x : Index) (nn : Word)
  /-- R248 -/
  | ldSpHl
  /-- R249 -/
  | ldSpIndex (x : Index)
  /-- R250 -/
  | pushPair (q : StackPair)
  /-- R251 -/
  | pushIndex (x : Index)
  /-- R252 -/
  | popPair (q : StackPair)
  /-- R253 -/
  | popIndex (x : Index)
  /-- R254 -/
  | exDeHl
  /-- R255 -/
  | exAf
  /-- R256 -/
  | exx
  /-- R257 -/
  | exSpHl
  /-- R258 -/
  | exSpIndex (x : Index)
  /-- R271 to R278 on a register -/
  | aluReg (op : AluOp) (r : Reg8)
  /-- R271 to R278 on (HL) -/
  | aluMem (op : AluOp)
  /-- R271 to R278 on an immediate -/
  | aluImm (op : AluOp) (n : Byte)
  /-- R271 to R278 on a half of an index register -/
  | aluHalf (op : AluOp) (x : Index) (h : Half)
  /-- R271 to R278 on (xy+d) -/
  | aluIdx (op : AluOp) (x : Index) (d : Byte)
  /-- R279 -/
  | incReg (r : Reg8)
  /-- R279 -/
  | incHalf (x : Index) (h : Half)
  /-- R280 -/
  | incMem
  /-- R281 -/
  | incIdx (x : Index) (d : Byte)
  /-- R282 -/
  | decReg (r : Reg8)
  /-- R282 -/
  | decHalf (x : Index) (h : Half)
  /-- R283 -/
  | decMem
  /-- R284 -/
  | decIdx (x : Index) (d : Byte)
  /-- R285 -/
  | daa
  /-- R286 -/
  | cpl
  /-- R287 -/
  | neg
  /-- R288 -/
  | ccf
  /-- R289 -/
  | scf
  /-- R300 -/
  | addHl (p : Pair)
  /-- R301 -/
  | adcHl (p : Pair)
  /-- R302 -/
  | sbcHl (p : Pair)
  /-- R303 -/
  | addIndex (x : Index) (p : IndexPair)
  /-- R304 -/
  | incPair (p : Pair)
  /-- R305 -/
  | incIndex (x : Index)
  /-- R306 -/
  | decPair (p : Pair)
  /-- R307 -/
  | decIndex (x : Index)
  /-- R321 to R324 -/
  | accRot (k : AccRot)
  /-- R325 to R332 on a register -/
  | rotReg (k : RotOp) (r : Reg8)
  /-- R325 to R332 on (HL) -/
  | rotMem (k : RotOp)
  /-- R325 to R332 on (xy+d), with the register copy of R340 if there is one -/
  | rotIdx (k : RotOp) (x : Index) (d : Byte) (copy : Option Reg8)
  /-- R333 -/
  | bitReg (b : BitNo) (r : Reg8)
  /-- R334 -/
  | bitMem (b : BitNo)
  /-- R335: the field z is ignored, all eight values are the same instruction (R340) -/
  | bitIdx (b : BitNo) (x : Index) (d : Byte) (z : BitVec 3)
  /-- R336 (`set` true) and R337 on a register -/
  | chgReg (set : Bool) (b : BitNo) (r : Reg8)
  /-- R336 (`set` true) and R337 on (HL) -/
  | chgMem (set : Bool) (b : BitNo)
  /-- R336 (`set` true) and R337 on (xy+d), with the register copy of R340 if there is one -/
  | chgIdx (set : Bool) (b : BitNo) (x : Index) (d : Byte) (copy : Option Reg8)
  /-- R338 -/
  | rld
  /-- R339 -/
  | rrd
  /-- R360 -/
  | jp (nn : Word)
  /-- R361 -/
  | jpCond (cc : Cond) (nn : Word)
  /-- R362 -/
  | jr (e : Byte)
  /-- R363 -/
  | jrCond (cc : JrCond) (e : Byte)
  /-- R364 -/
  | jpHl
  /-- R365 -/
  | jpIndex (x : Index)
  /-- R366 -/
  | djnz (e : Byte)
  /-- R367 -/
  | call (nn : Word)
  /-- R368 -/
  | callCond (cc : Cond) (nn : Word)
  /-- R369 -/
  | ret
  /-- R370 -/
  | retCond (cc : Cond)
  /-- R371 -/
  | reti
  /-- R372 -/
  | retn
  /-- R373 -/
  | rst (t : RstTarget)
  /-- R391 to R406 -/
  | block (k : BlockOp)
  /-- R420 -/
  | inAcc (n : Byte)
  /-- R421 -/
  | inReg (r : Reg8)
  /-- R422 -/
  | outAcc (n : Byte)
  /-- R423 -/
  | outReg (r : Reg8)
  /-- R424 -/
  | nop
  /-- R425 -/
  | halt
  /-- R426 -/
  | di
  /-- R427 -/
  | ei
  /-- R428 to R430 -/
  | im (m : ImMode)
  /-- R126 -/
  | invalid (p : OpPrefix) (op : Byte)
  deriving DecidableEq, Repr

/-! ## The codes of the fields -/

/-- R113: code 6 is the memory operand and selects no register. -/
def regOfCode (c : BitVec 3) : Option Reg8 :=
  match c.toNat with
  | 0 => some .B | 1 => some .C | 2 => some .D | 3 => some .E | 4 => some .H | 5 => some .L | 6 => none | _ => some .A

/-- R114. -/
def pairOfCode (c : BitVec 2) : Pair :=
  match c.toNat with
  | 0 => .BC | 1 => .DE | 2 => .HL | _ => .SP

/-- R115. -/
def stackPairOfCode (c : BitVec 2) : StackPair :=
  match c.toNat with
  | 0 => .BC | 1 => .DE | 2 => .HL | _ => .AF

/-- R303. -/
def indexPairOfCode (c : BitVec 2) : IndexPair :=
  match c.toNat with
  | 0 => .BC | 1 => .DE | 2 => .XY | _ => .SP

/-- R116. -/
def condOfCode (c : BitVec 3) : Cond :=
  match c.toNat with
  | 0 => .NZ | 1 => .Z | 2 => .NC | 3 => .C | 4 => .PO | 5 => .PE | 6 => .P | _ => .M

/-- R117. -/
def aluOfCode (c : BitVec 3) : AluOp :=
  match c.toNat with
  | 0 => .add | 1 => .adc | 2 => .sub | 3 => .sbc | 4 => .and | 5 => .xor | 6 => .or | _ => .cp

/-- R118. -/
def rotOfCode (c : BitVec 3) : RotOp :=
  match c.toNat with
  | 0 => .rlc | 1 => .rrc | 2 => .rl | 3 => .rr | 4 => .sla | 5 => .sra | 6 => .sll | _ => .srl

/-- R333: the field bbb. -/
def bitOfCode (c : BitVec 3) : BitNo :=
  match c.toNat with
  | 0 => .b0 | 1 => .b1 | 2 => .b2 | 3 => .b3 | 4 => .b4 | 5 => .b5 | 6 => .b6 | _ => .b7

/-- R373: the field ttt. -/
def rstOfCode (c : BitVec 3) : RstTarget :=
  match c.toNat with
  | 0 => .t00 | 1 => .t08 | 2 => .t10 | 3 => .t18 | 4 => .t20 | 5 => .t28 | 6 => .t30 | _ => .t38

/-- R119 item 3: what a register code means with a DD or FD prefix and no memory operand: a half of the index register
(codes 4 and 5) or a register as before; none for the memory operand. -/
def substOfCode (c : BitVec 3) : Option (Half ⊕ PlainReg) :=
  match c.toNat with
  | 0 => some (.inr .B) | 1 => some (.inr .C) | 2 => some (.inr .D) | 3 => some (.inr .E)
  | 4 => some (.inl .H) | 5 => some (.inl .L) | 6 => none | _ => some (.inr .A)

section Decoder
variable {ε : Type}

/-- A 16-bit immediate, low byte first, from position k on (R121). -/
def fetchImm16 (fetch : Nat → Except ε Byte) (k : Nat) : Except ε Word := do
  let l ← fetch k
  let h ← fetch (k + 1)
  pure (join h l)

/-- The CB table: total (R124, R132). -/
def cbForm (o : Byte) : Form :=
  match (fieldX o).toNat, regOfCode (fieldZ o) with
  | 0, some r => .rotReg (rotOfCode (fieldY o)) r
  | 0, none => .rotMem (rotOfCode (fieldY o))
  | 1, some r => .bitReg (bitOfCode (fieldY o)) r
  | 1, none => .bitMem (bitOfCode (fieldY o))
  | 2, some r => .chgReg false (bitOfCode (fieldY o)) r
  | 2, none => .chgMem false (bitOfCode (fieldY o))
  | _, some r => .chgReg true (bitOfCode (fieldY o)) r
  | _, none => .chgMem true (bitOfCode (fieldY o))

/-- The DDCB/FDCB table: total (R123, R132). -/
def xycbForm (x : Index) (d o : Byte) : Form :=
  match (fieldX o).toNat with
  | 0 => .rotIdx (rotOfCode (fieldY o)) x d (regOfCode (fieldZ o))
  | 1 => .bitIdx (bitOfCode (fieldY o)) x d (fieldZ o)
  | 2 => .chgIdx false (bitOfCode (fieldY o)) x d (regOfCode (fieldZ o))
  | _ => .chgIdx true (bitOfCode (fieldY o)) x d (regOfCode (fieldZ o))

/-- The block instructions: rows y = 4 to 7 of the ED table, columns z = 0 to 3 (R124). -/
def blockOfCode (y z : BitVec 3) : BlockOp :=
  match y.toNat, z.toNat with
  | 4, 0 => .ldi | 4, 1 => .cpi | 4, 2 => .ini | 4, _ => .outi
  | 5, 0 => .ldd | 5, 1 => .cpd | 5, 2 => .ind | 5, _ => .outd
  | 6, 0 => .ldir | 6, 1 => .cpir | 6, 2 => .inir | 6, _ => .otir
  | _, 0 => .lddr | _, 1 => .cpdr | _, 2 => .indr | _, _ => .otdr

/-- The ED table (R124); an opcode it does not list is undefined (R126). -/
def decodeED (fetch : Nat → Except ε Byte) (o : Byte) : Except ε Form :=
  let undefined : Except ε Form := .ok (.invalid .ED o)
  match (fieldX o).toNat, (fieldZ o).toNat with
  | 1, 0 => match regOfCode (fieldY o) with
    | some r => .ok (.inReg r)
    | none => undefined
  | 1, 1 => match regOfCode (fieldY o) with
    | some r => .ok (.outReg r)
    | none => undefined
  | 1, 2 => .ok (if fieldQ o then .adcHl (pairOfCode (fieldP o)) else .sbcHl (pairOfCode (fieldP o)))
  | 1, 3 => do
    let nn ← fetchImm16 fetch 2
    pure (if fieldQ o then .ldPairAbs (pairOfCode (fieldP o)) nn else .ldAbsPair (pairOfCode (fieldP o)) nn)
  | 1, 4 => if (fieldY o).toNat = 0 then .ok .neg else undefined
  | 1, 5 => match (fieldY o).toNat with
    | 0 => .ok .retn
    | 1 => .ok .reti
    | _ => undefined
  | 1, 6 => match (fieldY o).toNat with
    | 0 => .ok (.im .im0)
    | 2 => .ok (.im .im1)
    | 3 => .ok (.im .im2)
    | _ => undefined
  | 1, 7 => match (fieldY o).toNat with
    | 0 => .ok (.ldSpecialAcc .I)
    | 1 => .ok (.ldSpecialAcc .R)
    | 2 => .ok (.ldAccSpecial .I)
    | 3 => .ok (.ldAccSpecial .R)
    | 4 => .ok .rrd
    | 5 => .ok .rld
    | _ => undefined
  | 2, z => if z < 4 ∧ 4 ≤ (fieldY o).toNat then .ok (.block (blockOfCode (fieldY o) (fieldZ o))) else undefined
  | _, _ => undefined

/-- The DD/FD table without its CB entry (R125), each opcode the primary instruction under index substitution (R119); an
opcode it does not list is undefined (R126). -/
def decodeXY (fetch : Nat → Except ε Byte) (x : Index) (o : Byte) : Except ε Form :=
  let undefined : Except ε Form := .ok (.invalid x.opPrefix o)
  match (fieldX o).toNat, (fieldZ o).toNat with
  | 0, 1 =>
    if fieldQ o then .ok (.addIndex x (indexPairOfCode (fieldP o)))
    else if (fieldP o).toNat = 2 then do
      let nn ← fetchImm16 fetch 2
      pure (.ldIndexImm x nn)
    else undefined
  | 0, 2 =>
    if (fieldP o).toNat = 2 then do
      let nn ← fetchImm16 fetch 2
      pure (if fieldQ o then .ldIndexAbs x nn else .ldAbsIndex x nn)
    else undefined
  | 0, 3 =>
    if (fieldP o).toNat = 2 then .ok (if fieldQ o then .decIndex x else .incIndex x) else undefined
  | 0, 4 => match (fieldY o).toNat with
    | 4 => .ok (.incHalf x .H)
    | 5 => .ok (.incHalf x .L)
    | 6 => do
      let d ← fetch 2
      pure (.incIdx x d)
    | _ => undefined
  | 0, 5 => match (fieldY o).toNat with
    | 4 => .ok (.decHalf x .H)
    | 5 => .ok (.decHalf x .L)
    | 6 => do
      let d ← fetch 2
      pure (.decIdx x d)
    | _ => undefined
  | 0, 6 => match (fieldY o).toNat with
    | 4 => do
      let n ← fetch 2
      pure (.ldHalfImm x .H n)
    | 5 => do
      let n ← fetch 2
      pure (.ldHalfImm x .L n)
    | 6 => do
      let d ← fetch 2
      let n ← fetch 3
      pure (.ldIdxImm x d n)
    | _ => undefined
  | 1, _ => match regOfCode (fieldY o), regOfCode (fieldZ o) with
    | none, none => undefined
    | some r, none => do
      let d ← fetch 2
      pure (.ldRegIdx r x d)
    | none, some r => do
      let d ← fetch 2
      pure (.ldIdxReg x d r)
    | some _, some _ => match substOfCode (fieldY o), substOfCode (fieldZ o) with
      | some (.inr d), some (.inl h) => .ok (.ldRegHalf d x h)
      | some (.inl h), some (.inr r) => .ok (.ldHalfReg x h r)
      | some (.inl h), some (.inl h') => .ok (.ldHalfHalf x h h')
      | _, _ => undefined
  | 2, 4 => .ok (.aluHalf (aluOfCode (fieldY o)) x .H)
  | 2, 5 => .ok (.aluHalf (aluOfCode (fieldY o)) x .L)
  | 2, 6 => do
    let d ← fetch 2
    pure (.aluIdx (aluOfCode (fieldY o)) x d)
  | 3, 1 => match (fieldY o).toNat with
    | 4 => .ok (.popIndex x)
    | 5 => .ok (.jpIndex x)
    | 7 => .ok (.ldSpIndex x)
    | _ => undefined
  | 3, 3 => if (fieldY o).toNat = 4 then .ok (.exSpIndex x) else undefined
  | 3, 5 => if (fieldY o).toNat = 4 then .ok (.pushIndex x) else undefined
  | _, _ => undefined

/-- A DD or FD instruction: the prefix chain with CB, which reads d and the sub-opcode at bytes 2 and 3, or the DD/FD
table (R111). -/
def decodeIndexed (fetch : Nat → Except ε Byte) (x : Index) : Except ε Form := do
  let o ← fetch 1
  if o = 0xCB then do
    let d ← fetch 2
    let sub ← fetch 3
    pure (xycbForm x d sub)
  else decodeXY fetch x o

/-- The primary table's entries with x = 0. -/
def decodeX0 (fetch : Nat → Except ε Byte) (o : Byte) : Except ε Form :=
  match (fieldZ o).toNat with
  | 0 => match (fieldY o).toNat with
    | 0 => .ok .nop
    | 1 => .ok .exAf
    | 2 => do
      let e ← fetch 1
      pure (.djnz e)
    | 3 => do
      let e ← fetch 1
      pure (.jr e)
    | 4 => do
      let e ← fetch 1
      pure (.jrCond .NZ e)
    | 5 => do
      let e ← fetch 1
      pure (.jrCond .Z e)
    | 6 => do
      let e ← fetch 1
      pure (.jrCond .NC e)
    | _ => do
      let e ← fetch 1
      pure (.jrCond .C e)
  | 1 =>
    if fieldQ o then .ok (.addHl (pairOfCode (fieldP o)))
    else do
      let nn ← fetchImm16 fetch 1
      pure (.ldPairImm (pairOfCode (fieldP o)) nn)
  | 2 => match (fieldY o).toNat with
    | 0 => .ok (.ldIndAcc .BC)
    | 1 => .ok (.ldAccInd .BC)
    | 2 => .ok (.ldIndAcc .DE)
    | 3 => .ok (.ldAccInd .DE)
    | 4 => do
      let nn ← fetchImm16 fetch 1
      pure (.ldAbsHl nn)
    | 5 => do
      let nn ← fetchImm16 fetch 1
      pure (.ldHlAbs nn)
    | 6 => do
      let nn ← fetchImm16 fetch 1
      pure (.ldAbsAcc nn)
    | _ => do
      let nn ← fetchImm16 fetch 1
      pure (.ldAccAbs nn)
  | 3 => .ok (if fieldQ o then .decPair (pairOfCode (fieldP o)) else .incPair (pairOfCode (fieldP o)))
  | 4 => match regOfCode (fieldY o) with
    | some r => .ok (.incReg r)
    | none => .ok .incMem
  | 5 => match regOfCode (fieldY o) with
    | some r => .ok (.decReg r)
    | none => .ok .decMem
  | 6 => do
    let n ← fetch 1
    pure (match regOfCode (fieldY o) with
      | some r => .ldRegImm r n
      | none => .ldMemImm n)
  | _ => match (fieldY o).toNat with
    | 0 => .ok (.accRot .rlca)
    | 1 => .ok (.accRot .rrca)
    | 2 => .ok (.accRot .rla)
    | 3 => .ok (.accRot .rra)
    | 4 => .ok .daa
    | 5 => .ok .cpl
    | 6 => .ok .scf
    | _ => .ok .ccf

/-- The primary table's entries with x = 1: `LD r,r'` and its memory forms; `LD (HL),(HL)` is HALT (R203). -/
def x1Form (o : Byte) : Form :=
  match regOfCode (fieldY o), regOfCode (fieldZ o) with
  | some d, some r => .ldRegReg d r
  | some d, none => .ldRegMem d
  | none, some r => .ldMemReg r
  | none, none => .halt

/-- The primary table's entries with x = 2 (R270). -/
def x2Form (o : Byte) : Form :=
  match regOfCode (fieldZ o) with
  | some r => .aluReg (aluOfCode (fieldY o)) r
  | none => .aluMem (aluOfCode (fieldY o))

/-- The primary table's entries with x = 3, the four prefixes among them. -/
def decodeX3 (fetch : Nat → Except ε Byte) (o : Byte) : Except ε Form :=
  match (fieldZ o).toNat with
  | 0 => .ok (.retCond (condOfCode (fieldY o)))
  | 1 =>
    if fieldQ o then
      match (fieldP o).toNat with
      | 0 => .ok .ret
      | 1 => .ok .exx
      | 2 => .ok .jpHl
      | _ => .ok .ldSpHl
    else .ok (.popPair (stackPairOfCode (fieldP o)))
  | 2 => do
    let nn ← fetchImm16 fetch 1
    pure (.jpCond (condOfCode (fieldY o)) nn)
  | 3 => match (fieldY o).toNat with
    | 0 => do
      let nn ← fetchImm16 fetch 1
      pure (.jp nn)
    | 1 => do
      let op ← fetch 1
      pure (cbForm op)
    | 2 => do
      let n ← fetch 1
      pure (.outAcc n)
    | 3 => do
      let n ← fetch 1
      pure (.inAcc n)
    | 4 => .ok .exSpHl
    | 5 => .ok .exDeHl
    | 6 => .ok .di
    | _ => .ok .ei
  | 4 => do
    let nn ← fetchImm16 fetch 1
    pure (.callCond (condOfCode (fieldY o)) nn)
  | 5 =>
    if fieldQ o then
      match (fieldP o).toNat with
      | 0 => do
        let nn ← fetchImm16 fetch 1
        pure (.call nn)
      | 1 => decodeIndexed fetch .IX
      | 2 => do
        let op ← fetch 1
        decodeED fetch op
      | _ => decodeIndexed fetch .IY
    else .ok (.pushPair (stackPairOfCode (fieldP o)))
  | 6 => do
    let n ← fetch 1
    pure (.aluImm (aluOfCode (fieldY o)) n)
  | _ => .ok (.rst (rstOfCode (fieldY o)))

/-- One instruction, read through a fetch function (R111). -/
def decodeWith (fetch : Nat → Except ε Byte) : Except ε Form := do
  let o ← fetch 0
  match (fieldX o).toNat with
  | 0 => decodeX0 fetch o
  | 1 => pure (x1Form o)
  | 2 => pure (x2Form o)
  | _ => decodeX3 fetch o

end Decoder

/-- The length of an instruction in bytes (R110: the format of its row). -/
def Form.length : Form → Nat
  | .ldRegReg _ _ | .ldRegMem _ | .ldMemReg _ | .ldAccInd _ | .ldIndAcc _ | .ldSpHl | .pushPair _ | .popPair _
  | .exDeHl | .exAf | .exx | .exSpHl | .aluReg _ _ | .aluMem _ | .incReg _ | .incMem | .decReg _ | .decMem
  | .daa | .cpl | .ccf | .scf | .addHl _ | .incPair _ | .decPair _ | .accRot _ | .jpHl | .ret | .retCond _ | .rst _
  | .nop | .halt | .di | .ei => 1
  | .ldRegImm _ _ | .ldMemImm _ | .ldAccSpecial _ | .ldSpecialAcc _ | .ldRegHalf _ _ _ | .ldHalfReg _ _ _
  | .ldHalfHalf _ _ _ | .ldSpIndex _ | .pushIndex _ | .popIndex _ | .exSpIndex _ | .aluImm _ _ | .aluHalf _ _ _
  | .incHalf _ _ | .decHalf _ _ | .neg | .adcHl _ | .sbcHl _ | .addIndex _ _ | .incIndex _ | .decIndex _
  | .rotReg _ _ | .rotMem _ | .bitReg _ _ | .bitMem _ | .chgReg _ _ _ | .chgMem _ _ | .rld | .rrd | .jr _
  | .jrCond _ _ | .jpIndex _ | .djnz _ | .reti | .retn | .block _ | .inAcc _ | .inReg _ | .outAcc _ | .outReg _
  | .im _ | .invalid _ _ => 2
  | .ldRegIdx _ _ _ | .ldIdxReg _ _ _ | .ldAccAbs _ | .ldAbsAcc _ | .ldHalfImm _ _ _ | .ldPairImm _ _ | .ldHlAbs _
  | .ldAbsHl _ | .aluIdx _ _ _ | .incIdx _ _ | .decIdx _ _ | .jp _ | .jpCond _ _ | .call _ | .callCond _ _ => 3
  | .ldIdxImm _ _ _ | .ldIndexImm _ _ | .ldPairAbs _ _ | .ldIndexAbs _ _ | .ldAbsPair _ _ | .ldAbsIndex _ _
  | .rotIdx _ _ _ _ | .bitIdx _ _ _ _ | .chgIdx _ _ _ _ _ => 4

/-! ## The constructor of each form -/

/-- The instruction of the form `ldPairImm`. -/
noncomputable def ldPairImmInstr (p : Pair) (nn : Word) : Instr :=
  match p with
  | .BC => .ld_BC_nn nn
  | .DE => .ld_DE_nn nn
  | .HL => .ld_HL_nn nn
  | .SP => .ld_SP_nn nn

/-- The instruction of the form `ldIndAcc`. -/
noncomputable def ldIndAccInstr (p : AccPointer) : Instr :=
  match p with
  | .BC => .ld_atBC_A
  | .DE => .ld_atDE_A

/-- The instruction of the form `incPair`. -/
noncomputable def incPairInstr (p : Pair) : Instr :=
  match p with
  | .BC => .inc_BC
  | .DE => .inc_DE
  | .HL => .inc_HL
  | .SP => .inc_SP

/-- The instruction of the form `incReg`. -/
noncomputable def incRegInstr (r : Reg8) : Instr :=
  match r with
  | .B => .inc_B
  | .C => .inc_C
  | .D => .inc_D
  | .E => .inc_E
  | .H => .inc_H
  | .L => .inc_L
  | .A => .inc_A

/-- The instruction of the form `decReg`. -/
noncomputable def decRegInstr (r : Reg8) : Instr :=
  match r with
  | .B => .dec_B
  | .C => .dec_C
  | .D => .dec_D
  | .E => .dec_E
  | .H => .dec_H
  | .L => .dec_L
  | .A => .dec_A

/-- The instruction of the form `ldRegImm`. -/
noncomputable def ldRegImmInstr (d : Reg8) (n : Byte) : Instr :=
  match d with
  | .B => .ld_B_n n
  | .C => .ld_C_n n
  | .D => .ld_D_n n
  | .E => .ld_E_n n
  | .H => .ld_H_n n
  | .L => .ld_L_n n
  | .A => .ld_A_n n

/-- The instruction of the form `accRot`. -/
noncomputable def accRotInstr (k : AccRot) : Instr :=
  match k with
  | .rlca => .rlca
  | .rrca => .rrca
  | .rla => .rla
  | .rra => .rra

/-- The instruction of the form `addHl`. -/
noncomputable def addHlInstr (p : Pair) : Instr :=
  match p with
  | .BC => .add_HL_BC
  | .DE => .add_HL_DE
  | .HL => .add_HL_HL
  | .SP => .add_HL_SP

/-- The instruction of the form `ldAccInd`. -/
noncomputable def ldAccIndInstr (p : AccPointer) : Instr :=
  match p with
  | .BC => .ld_A_atBC
  | .DE => .ld_A_atDE

/-- The instruction of the form `decPair`. -/
noncomputable def decPairInstr (p : Pair) : Instr :=
  match p with
  | .BC => .dec_BC
  | .DE => .dec_DE
  | .HL => .dec_HL
  | .SP => .dec_SP

/-- The instruction of the form `jrCond`. -/
noncomputable def jrCondInstr (cc : JrCond) (e : Byte) : Instr :=
  match cc with
  | .NZ => .jr_NZ_e e
  | .Z => .jr_Z_e e
  | .NC => .jr_NC_e e
  | .C => .jr_C_e e

/-- The instruction of the form `ldRegReg`. -/
noncomputable def ldRegRegInstr (d : Reg8) (r : Reg8) : Instr :=
  match d, r with
  | .B, .B => .ld_B_B
  | .B, .C => .ld_B_C
  | .B, .D => .ld_B_D
  | .B, .E => .ld_B_E
  | .B, .H => .ld_B_H
  | .B, .L => .ld_B_L
  | .B, .A => .ld_B_A
  | .C, .B => .ld_C_B
  | .C, .C => .ld_C_C
  | .C, .D => .ld_C_D
  | .C, .E => .ld_C_E
  | .C, .H => .ld_C_H
  | .C, .L => .ld_C_L
  | .C, .A => .ld_C_A
  | .D, .B => .ld_D_B
  | .D, .C => .ld_D_C
  | .D, .D => .ld_D_D
  | .D, .E => .ld_D_E
  | .D, .H => .ld_D_H
  | .D, .L => .ld_D_L
  | .D, .A => .ld_D_A
  | .E, .B => .ld_E_B
  | .E, .C => .ld_E_C
  | .E, .D => .ld_E_D
  | .E, .E => .ld_E_E
  | .E, .H => .ld_E_H
  | .E, .L => .ld_E_L
  | .E, .A => .ld_E_A
  | .H, .B => .ld_H_B
  | .H, .C => .ld_H_C
  | .H, .D => .ld_H_D
  | .H, .E => .ld_H_E
  | .H, .H => .ld_H_H
  | .H, .L => .ld_H_L
  | .H, .A => .ld_H_A
  | .L, .B => .ld_L_B
  | .L, .C => .ld_L_C
  | .L, .D => .ld_L_D
  | .L, .E => .ld_L_E
  | .L, .H => .ld_L_H
  | .L, .L => .ld_L_L
  | .L, .A => .ld_L_A
  | .A, .B => .ld_A_B
  | .A, .C => .ld_A_C
  | .A, .D => .ld_A_D
  | .A, .E => .ld_A_E
  | .A, .H => .ld_A_H
  | .A, .L => .ld_A_L
  | .A, .A => .ld_A_A

/-- The instruction of the form `ldRegMem`. -/
noncomputable def ldRegMemInstr (d : Reg8) : Instr :=
  match d with
  | .B => .ld_B_atHL
  | .C => .ld_C_atHL
  | .D => .ld_D_atHL
  | .E => .ld_E_atHL
  | .H => .ld_H_atHL
  | .L => .ld_L_atHL
  | .A => .ld_A_atHL

/-- The instruction of the form `ldMemReg`. -/
noncomputable def ldMemRegInstr (r : Reg8) : Instr :=
  match r with
  | .B => .ld_atHL_B
  | .C => .ld_atHL_C
  | .D => .ld_atHL_D
  | .E => .ld_atHL_E
  | .H => .ld_atHL_H
  | .L => .ld_atHL_L
  | .A => .ld_atHL_A

/-- The instruction of the form `aluReg`. -/
noncomputable def aluRegInstr (op : AluOp) (r : Reg8) : Instr :=
  match op, r with
  | .add, .B => .add_A_B
  | .add, .C => .add_A_C
  | .add, .D => .add_A_D
  | .add, .E => .add_A_E
  | .add, .H => .add_A_H
  | .add, .L => .add_A_L
  | .add, .A => .add_A_A
  | .adc, .B => .adc_A_B
  | .adc, .C => .adc_A_C
  | .adc, .D => .adc_A_D
  | .adc, .E => .adc_A_E
  | .adc, .H => .adc_A_H
  | .adc, .L => .adc_A_L
  | .adc, .A => .adc_A_A
  | .sub, .B => .sub_B
  | .sub, .C => .sub_C
  | .sub, .D => .sub_D
  | .sub, .E => .sub_E
  | .sub, .H => .sub_H
  | .sub, .L => .sub_L
  | .sub, .A => .sub_A
  | .sbc, .B => .sbc_A_B
  | .sbc, .C => .sbc_A_C
  | .sbc, .D => .sbc_A_D
  | .sbc, .E => .sbc_A_E
  | .sbc, .H => .sbc_A_H
  | .sbc, .L => .sbc_A_L
  | .sbc, .A => .sbc_A_A
  | .and, .B => .and_B
  | .and, .C => .and_C
  | .and, .D => .and_D
  | .and, .E => .and_E
  | .and, .H => .and_H
  | .and, .L => .and_L
  | .and, .A => .and_A
  | .xor, .B => .xor_B
  | .xor, .C => .xor_C
  | .xor, .D => .xor_D
  | .xor, .E => .xor_E
  | .xor, .H => .xor_H
  | .xor, .L => .xor_L
  | .xor, .A => .xor_A
  | .or, .B => .or_B
  | .or, .C => .or_C
  | .or, .D => .or_D
  | .or, .E => .or_E
  | .or, .H => .or_H
  | .or, .L => .or_L
  | .or, .A => .or_A
  | .cp, .B => .cp_B
  | .cp, .C => .cp_C
  | .cp, .D => .cp_D
  | .cp, .E => .cp_E
  | .cp, .H => .cp_H
  | .cp, .L => .cp_L
  | .cp, .A => .cp_A

/-- The instruction of the form `aluMem`. -/
noncomputable def aluMemInstr (op : AluOp) : Instr :=
  match op with
  | .add => .add_A_atHL
  | .adc => .adc_A_atHL
  | .sub => .sub_atHL
  | .sbc => .sbc_A_atHL
  | .and => .and_atHL
  | .xor => .xor_atHL
  | .or => .or_atHL
  | .cp => .cp_atHL

/-- The instruction of the form `retCond`. -/
noncomputable def retCondInstr (cc : Cond) : Instr :=
  match cc with
  | .NZ => .ret_NZ
  | .Z => .ret_Z
  | .NC => .ret_NC
  | .C => .ret_C
  | .PO => .ret_PO
  | .PE => .ret_PE
  | .P => .ret_P
  | .M => .ret_M

/-- The instruction of the form `popPair`. -/
noncomputable def popPairInstr (q : StackPair) : Instr :=
  match q with
  | .BC => .pop_BC
  | .DE => .pop_DE
  | .HL => .pop_HL
  | .AF => .pop_AF

/-- The instruction of the form `jpCond`. -/
noncomputable def jpCondInstr (cc : Cond) (nn : Word) : Instr :=
  match cc with
  | .NZ => .jp_NZ_nn nn
  | .Z => .jp_Z_nn nn
  | .NC => .jp_NC_nn nn
  | .C => .jp_C_nn nn
  | .PO => .jp_PO_nn nn
  | .PE => .jp_PE_nn nn
  | .P => .jp_P_nn nn
  | .M => .jp_M_nn nn

/-- The instruction of the form `callCond`. -/
noncomputable def callCondInstr (cc : Cond) (nn : Word) : Instr :=
  match cc with
  | .NZ => .call_NZ_nn nn
  | .Z => .call_Z_nn nn
  | .NC => .call_NC_nn nn
  | .C => .call_C_nn nn
  | .PO => .call_PO_nn nn
  | .PE => .call_PE_nn nn
  | .P => .call_P_nn nn
  | .M => .call_M_nn nn

/-- The instruction of the form `pushPair`. -/
noncomputable def pushPairInstr (q : StackPair) : Instr :=
  match q with
  | .BC => .push_BC
  | .DE => .push_DE
  | .HL => .push_HL
  | .AF => .push_AF

/-- The instruction of the form `aluImm`. -/
noncomputable def aluImmInstr (op : AluOp) (n : Byte) : Instr :=
  match op with
  | .add => .add_A_n n
  | .adc => .adc_A_n n
  | .sub => .sub_n n
  | .sbc => .sbc_A_n n
  | .and => .and_n n
  | .xor => .xor_n n
  | .or => .or_n n
  | .cp => .cp_n n

/-- The instruction of the form `rst`. -/
noncomputable def rstInstr (t : RstTarget) : Instr :=
  match t with
  | .t00 => .rst_00H
  | .t08 => .rst_08H
  | .t10 => .rst_10H
  | .t18 => .rst_18H
  | .t20 => .rst_20H
  | .t28 => .rst_28H
  | .t30 => .rst_30H
  | .t38 => .rst_38H

/-- The instruction of the form `rotReg`. -/
noncomputable def rotRegInstr (k : RotOp) (r : Reg8) : Instr :=
  match k, r with
  | .rlc, .B => .rlc_B
  | .rlc, .C => .rlc_C
  | .rlc, .D => .rlc_D
  | .rlc, .E => .rlc_E
  | .rlc, .H => .rlc_H
  | .rlc, .L => .rlc_L
  | .rlc, .A => .rlc_A
  | .rrc, .B => .rrc_B
  | .rrc, .C => .rrc_C
  | .rrc, .D => .rrc_D
  | .rrc, .E => .rrc_E
  | .rrc, .H => .rrc_H
  | .rrc, .L => .rrc_L
  | .rrc, .A => .rrc_A
  | .rl, .B => .rl_B
  | .rl, .C => .rl_C
  | .rl, .D => .rl_D
  | .rl, .E => .rl_E
  | .rl, .H => .rl_H
  | .rl, .L => .rl_L
  | .rl, .A => .rl_A
  | .rr, .B => .rr_B
  | .rr, .C => .rr_C
  | .rr, .D => .rr_D
  | .rr, .E => .rr_E
  | .rr, .H => .rr_H
  | .rr, .L => .rr_L
  | .rr, .A => .rr_A
  | .sla, .B => .sla_B
  | .sla, .C => .sla_C
  | .sla, .D => .sla_D
  | .sla, .E => .sla_E
  | .sla, .H => .sla_H
  | .sla, .L => .sla_L
  | .sla, .A => .sla_A
  | .sra, .B => .sra_B
  | .sra, .C => .sra_C
  | .sra, .D => .sra_D
  | .sra, .E => .sra_E
  | .sra, .H => .sra_H
  | .sra, .L => .sra_L
  | .sra, .A => .sra_A
  | .sll, .B => .sll_B
  | .sll, .C => .sll_C
  | .sll, .D => .sll_D
  | .sll, .E => .sll_E
  | .sll, .H => .sll_H
  | .sll, .L => .sll_L
  | .sll, .A => .sll_A
  | .srl, .B => .srl_B
  | .srl, .C => .srl_C
  | .srl, .D => .srl_D
  | .srl, .E => .srl_E
  | .srl, .H => .srl_H
  | .srl, .L => .srl_L
  | .srl, .A => .srl_A

/-- The instruction of the form `rotMem`. -/
noncomputable def rotMemInstr (k : RotOp) : Instr :=
  match k with
  | .rlc => .rlc_atHL
  | .rrc => .rrc_atHL
  | .rl => .rl_atHL
  | .rr => .rr_atHL
  | .sla => .sla_atHL
  | .sra => .sra_atHL
  | .sll => .sll_atHL
  | .srl => .srl_atHL

/-- The instruction of the form `bitReg`. -/
noncomputable def bitRegInstr (b : BitNo) (r : Reg8) : Instr :=
  match b, r with
  | .b0, .B => .bit_0_B
  | .b0, .C => .bit_0_C
  | .b0, .D => .bit_0_D
  | .b0, .E => .bit_0_E
  | .b0, .H => .bit_0_H
  | .b0, .L => .bit_0_L
  | .b0, .A => .bit_0_A
  | .b1, .B => .bit_1_B
  | .b1, .C => .bit_1_C
  | .b1, .D => .bit_1_D
  | .b1, .E => .bit_1_E
  | .b1, .H => .bit_1_H
  | .b1, .L => .bit_1_L
  | .b1, .A => .bit_1_A
  | .b2, .B => .bit_2_B
  | .b2, .C => .bit_2_C
  | .b2, .D => .bit_2_D
  | .b2, .E => .bit_2_E
  | .b2, .H => .bit_2_H
  | .b2, .L => .bit_2_L
  | .b2, .A => .bit_2_A
  | .b3, .B => .bit_3_B
  | .b3, .C => .bit_3_C
  | .b3, .D => .bit_3_D
  | .b3, .E => .bit_3_E
  | .b3, .H => .bit_3_H
  | .b3, .L => .bit_3_L
  | .b3, .A => .bit_3_A
  | .b4, .B => .bit_4_B
  | .b4, .C => .bit_4_C
  | .b4, .D => .bit_4_D
  | .b4, .E => .bit_4_E
  | .b4, .H => .bit_4_H
  | .b4, .L => .bit_4_L
  | .b4, .A => .bit_4_A
  | .b5, .B => .bit_5_B
  | .b5, .C => .bit_5_C
  | .b5, .D => .bit_5_D
  | .b5, .E => .bit_5_E
  | .b5, .H => .bit_5_H
  | .b5, .L => .bit_5_L
  | .b5, .A => .bit_5_A
  | .b6, .B => .bit_6_B
  | .b6, .C => .bit_6_C
  | .b6, .D => .bit_6_D
  | .b6, .E => .bit_6_E
  | .b6, .H => .bit_6_H
  | .b6, .L => .bit_6_L
  | .b6, .A => .bit_6_A
  | .b7, .B => .bit_7_B
  | .b7, .C => .bit_7_C
  | .b7, .D => .bit_7_D
  | .b7, .E => .bit_7_E
  | .b7, .H => .bit_7_H
  | .b7, .L => .bit_7_L
  | .b7, .A => .bit_7_A

/-- The instruction of the form `bitMem`. -/
noncomputable def bitMemInstr (b : BitNo) : Instr :=
  match b with
  | .b0 => .bit_0_atHL
  | .b1 => .bit_1_atHL
  | .b2 => .bit_2_atHL
  | .b3 => .bit_3_atHL
  | .b4 => .bit_4_atHL
  | .b5 => .bit_5_atHL
  | .b6 => .bit_6_atHL
  | .b7 => .bit_7_atHL

/-- The instructions of `chgReg` with set = false. -/
noncomputable def chgRegFalse (b : BitNo) (r : Reg8) : Instr :=
  match b, r with
  | .b0, .B => .res_0_B
  | .b0, .C => .res_0_C
  | .b0, .D => .res_0_D
  | .b0, .E => .res_0_E
  | .b0, .H => .res_0_H
  | .b0, .L => .res_0_L
  | .b0, .A => .res_0_A
  | .b1, .B => .res_1_B
  | .b1, .C => .res_1_C
  | .b1, .D => .res_1_D
  | .b1, .E => .res_1_E
  | .b1, .H => .res_1_H
  | .b1, .L => .res_1_L
  | .b1, .A => .res_1_A
  | .b2, .B => .res_2_B
  | .b2, .C => .res_2_C
  | .b2, .D => .res_2_D
  | .b2, .E => .res_2_E
  | .b2, .H => .res_2_H
  | .b2, .L => .res_2_L
  | .b2, .A => .res_2_A
  | .b3, .B => .res_3_B
  | .b3, .C => .res_3_C
  | .b3, .D => .res_3_D
  | .b3, .E => .res_3_E
  | .b3, .H => .res_3_H
  | .b3, .L => .res_3_L
  | .b3, .A => .res_3_A
  | .b4, .B => .res_4_B
  | .b4, .C => .res_4_C
  | .b4, .D => .res_4_D
  | .b4, .E => .res_4_E
  | .b4, .H => .res_4_H
  | .b4, .L => .res_4_L
  | .b4, .A => .res_4_A
  | .b5, .B => .res_5_B
  | .b5, .C => .res_5_C
  | .b5, .D => .res_5_D
  | .b5, .E => .res_5_E
  | .b5, .H => .res_5_H
  | .b5, .L => .res_5_L
  | .b5, .A => .res_5_A
  | .b6, .B => .res_6_B
  | .b6, .C => .res_6_C
  | .b6, .D => .res_6_D
  | .b6, .E => .res_6_E
  | .b6, .H => .res_6_H
  | .b6, .L => .res_6_L
  | .b6, .A => .res_6_A
  | .b7, .B => .res_7_B
  | .b7, .C => .res_7_C
  | .b7, .D => .res_7_D
  | .b7, .E => .res_7_E
  | .b7, .H => .res_7_H
  | .b7, .L => .res_7_L
  | .b7, .A => .res_7_A

/-- The instructions of `chgReg` with set = true. -/
noncomputable def chgRegTrue (b : BitNo) (r : Reg8) : Instr :=
  match b, r with
  | .b0, .B => .set_0_B
  | .b0, .C => .set_0_C
  | .b0, .D => .set_0_D
  | .b0, .E => .set_0_E
  | .b0, .H => .set_0_H
  | .b0, .L => .set_0_L
  | .b0, .A => .set_0_A
  | .b1, .B => .set_1_B
  | .b1, .C => .set_1_C
  | .b1, .D => .set_1_D
  | .b1, .E => .set_1_E
  | .b1, .H => .set_1_H
  | .b1, .L => .set_1_L
  | .b1, .A => .set_1_A
  | .b2, .B => .set_2_B
  | .b2, .C => .set_2_C
  | .b2, .D => .set_2_D
  | .b2, .E => .set_2_E
  | .b2, .H => .set_2_H
  | .b2, .L => .set_2_L
  | .b2, .A => .set_2_A
  | .b3, .B => .set_3_B
  | .b3, .C => .set_3_C
  | .b3, .D => .set_3_D
  | .b3, .E => .set_3_E
  | .b3, .H => .set_3_H
  | .b3, .L => .set_3_L
  | .b3, .A => .set_3_A
  | .b4, .B => .set_4_B
  | .b4, .C => .set_4_C
  | .b4, .D => .set_4_D
  | .b4, .E => .set_4_E
  | .b4, .H => .set_4_H
  | .b4, .L => .set_4_L
  | .b4, .A => .set_4_A
  | .b5, .B => .set_5_B
  | .b5, .C => .set_5_C
  | .b5, .D => .set_5_D
  | .b5, .E => .set_5_E
  | .b5, .H => .set_5_H
  | .b5, .L => .set_5_L
  | .b5, .A => .set_5_A
  | .b6, .B => .set_6_B
  | .b6, .C => .set_6_C
  | .b6, .D => .set_6_D
  | .b6, .E => .set_6_E
  | .b6, .H => .set_6_H
  | .b6, .L => .set_6_L
  | .b6, .A => .set_6_A
  | .b7, .B => .set_7_B
  | .b7, .C => .set_7_C
  | .b7, .D => .set_7_D
  | .b7, .E => .set_7_E
  | .b7, .H => .set_7_H
  | .b7, .L => .set_7_L
  | .b7, .A => .set_7_A

/-- The instruction of the form `chgReg`. -/
noncomputable def chgRegInstr (set : Bool) (b : BitNo) (r : Reg8) : Instr :=
  match set with
  | false => chgRegFalse b r
  | true => chgRegTrue b r

/-- The instruction of the form `chgMem`. -/
noncomputable def chgMemInstr (set : Bool) (b : BitNo) : Instr :=
  match set, b with
  | false, .b0 => .res_0_atHL
  | false, .b1 => .res_1_atHL
  | false, .b2 => .res_2_atHL
  | false, .b3 => .res_3_atHL
  | false, .b4 => .res_4_atHL
  | false, .b5 => .res_5_atHL
  | false, .b6 => .res_6_atHL
  | false, .b7 => .res_7_atHL
  | true, .b0 => .set_0_atHL
  | true, .b1 => .set_1_atHL
  | true, .b2 => .set_2_atHL
  | true, .b3 => .set_3_atHL
  | true, .b4 => .set_4_atHL
  | true, .b5 => .set_5_atHL
  | true, .b6 => .set_6_atHL
  | true, .b7 => .set_7_atHL

/-- The instruction of the form `inReg`. -/
noncomputable def inRegInstr (r : Reg8) : Instr :=
  match r with
  | .B => .in_B_atC
  | .C => .in_C_atC
  | .D => .in_D_atC
  | .E => .in_E_atC
  | .H => .in_H_atC
  | .L => .in_L_atC
  | .A => .in_A_atC

/-- The instruction of the form `outReg`. -/
noncomputable def outRegInstr (r : Reg8) : Instr :=
  match r with
  | .B => .out_atC_B
  | .C => .out_atC_C
  | .D => .out_atC_D
  | .E => .out_atC_E
  | .H => .out_atC_H
  | .L => .out_atC_L
  | .A => .out_atC_A

/-- The instruction of the form `sbcHl`. -/
noncomputable def sbcHlInstr (p : Pair) : Instr :=
  match p with
  | .BC => .sbc_HL_BC
  | .DE => .sbc_HL_DE
  | .HL => .sbc_HL_HL
  | .SP => .sbc_HL_SP

/-- The instruction of the form `ldAbsPair`. -/
noncomputable def ldAbsPairInstr (p : Pair) (nn : Word) : Instr :=
  match p with
  | .BC => .ld_atnn_BC nn
  | .DE => .ld_atnn_DE nn
  | .HL => .ld_atnn_HL_ED nn
  | .SP => .ld_atnn_SP nn

/-- The instruction of the form `im`. -/
noncomputable def imInstr (m : ImMode) : Instr :=
  match m with
  | .im0 => .im_0
  | .im1 => .im_1
  | .im2 => .im_2

/-- The instruction of the form `ldSpecialAcc`. -/
noncomputable def ldSpecialAccInstr (q : SpecialReg) : Instr :=
  match q with
  | .I => .ld_I_A
  | .R => .ld_R_A

/-- The instruction of the form `adcHl`. -/
noncomputable def adcHlInstr (p : Pair) : Instr :=
  match p with
  | .BC => .adc_HL_BC
  | .DE => .adc_HL_DE
  | .HL => .adc_HL_HL
  | .SP => .adc_HL_SP

/-- The instruction of the form `ldPairAbs`. -/
noncomputable def ldPairAbsInstr (p : Pair) (nn : Word) : Instr :=
  match p with
  | .BC => .ld_BC_atnn nn
  | .DE => .ld_DE_atnn nn
  | .HL => .ld_HL_atnn_ED nn
  | .SP => .ld_SP_atnn nn

/-- The instruction of the form `ldAccSpecial`. -/
noncomputable def ldAccSpecialInstr (q : SpecialReg) : Instr :=
  match q with
  | .I => .ld_A_I
  | .R => .ld_A_R

/-- The instruction of the form `block`. -/
noncomputable def blockInstr (k : BlockOp) : Instr :=
  match k with
  | .ldi => .ldi
  | .cpi => .cpi
  | .ini => .ini
  | .outi => .outi
  | .ldd => .ldd
  | .cpd => .cpd
  | .ind => .ind
  | .outd => .outd
  | .ldir => .ldir
  | .cpir => .cpir
  | .inir => .inir
  | .otir => .otir
  | .lddr => .lddr
  | .cpdr => .cpdr
  | .indr => .indr
  | .otdr => .otdr

/-- The instruction of the form `addIndex`. -/
noncomputable def addIndexInstr (x : Index) (p : IndexPair) : Instr :=
  match x, p with
  | .IX, .BC => .add_IX_BC
  | .IX, .DE => .add_IX_DE
  | .IX, .XY => .add_IX_IX
  | .IX, .SP => .add_IX_SP
  | .IY, .BC => .add_IY_BC
  | .IY, .DE => .add_IY_DE
  | .IY, .XY => .add_IY_IY
  | .IY, .SP => .add_IY_SP

/-- The instruction of the form `ldIndexImm`. -/
noncomputable def ldIndexImmInstr (x : Index) (nn : Word) : Instr :=
  match x with
  | .IX => .ld_IX_nn nn
  | .IY => .ld_IY_nn nn

/-- The instruction of the form `ldAbsIndex`. -/
noncomputable def ldAbsIndexInstr (x : Index) (nn : Word) : Instr :=
  match x with
  | .IX => .ld_atnn_IX nn
  | .IY => .ld_atnn_IY nn

/-- The instruction of the form `incIndex`. -/
noncomputable def incIndexInstr (x : Index) : Instr :=
  match x with
  | .IX => .inc_IX
  | .IY => .inc_IY

/-- The instruction of the form `incHalf`. -/
noncomputable def incHalfInstr (x : Index) (h : Half) : Instr :=
  match x, h with
  | .IX, .H => .inc_IXH
  | .IX, .L => .inc_IXL
  | .IY, .H => .inc_IYH
  | .IY, .L => .inc_IYL

/-- The instruction of the form `decHalf`. -/
noncomputable def decHalfInstr (x : Index) (h : Half) : Instr :=
  match x, h with
  | .IX, .H => .dec_IXH
  | .IX, .L => .dec_IXL
  | .IY, .H => .dec_IYH
  | .IY, .L => .dec_IYL

/-- The instruction of the form `ldHalfImm`. -/
noncomputable def ldHalfImmInstr (x : Index) (h : Half) (n : Byte) : Instr :=
  match x, h with
  | .IX, .H => .ld_IXH_n n
  | .IX, .L => .ld_IXL_n n
  | .IY, .H => .ld_IYH_n n
  | .IY, .L => .ld_IYL_n n

/-- The instruction of the form `ldIndexAbs`. -/
noncomputable def ldIndexAbsInstr (x : Index) (nn : Word) : Instr :=
  match x with
  | .IX => .ld_IX_atnn nn
  | .IY => .ld_IY_atnn nn

/-- The instruction of the form `decIndex`. -/
noncomputable def decIndexInstr (x : Index) : Instr :=
  match x with
  | .IX => .dec_IX
  | .IY => .dec_IY

/-- The instruction of the form `incIdx`. -/
noncomputable def incIdxInstr (x : Index) (d : Byte) : Instr :=
  match x with
  | .IX => .inc_atIXd d
  | .IY => .inc_atIYd d

/-- The instruction of the form `decIdx`. -/
noncomputable def decIdxInstr (x : Index) (d : Byte) : Instr :=
  match x with
  | .IX => .dec_atIXd d
  | .IY => .dec_atIYd d

/-- The instruction of the form `ldIdxImm`. -/
noncomputable def ldIdxImmInstr (x : Index) (d : Byte) (n : Byte) : Instr :=
  match x with
  | .IX => .ld_atIXd_n d n
  | .IY => .ld_atIYd_n d n

/-- The instruction of the form `ldRegHalf`. -/
noncomputable def ldRegHalfInstr (d : PlainReg) (x : Index) (h : Half) : Instr :=
  match d, x, h with
  | .B, .IX, .H => .ld_B_IXH
  | .B, .IX, .L => .ld_B_IXL
  | .C, .IX, .H => .ld_C_IXH
  | .C, .IX, .L => .ld_C_IXL
  | .D, .IX, .H => .ld_D_IXH
  | .D, .IX, .L => .ld_D_IXL
  | .E, .IX, .H => .ld_E_IXH
  | .E, .IX, .L => .ld_E_IXL
  | .A, .IX, .H => .ld_A_IXH
  | .A, .IX, .L => .ld_A_IXL
  | .B, .IY, .H => .ld_B_IYH
  | .B, .IY, .L => .ld_B_IYL
  | .C, .IY, .H => .ld_C_IYH
  | .C, .IY, .L => .ld_C_IYL
  | .D, .IY, .H => .ld_D_IYH
  | .D, .IY, .L => .ld_D_IYL
  | .E, .IY, .H => .ld_E_IYH
  | .E, .IY, .L => .ld_E_IYL
  | .A, .IY, .H => .ld_A_IYH
  | .A, .IY, .L => .ld_A_IYL

/-- The instruction of the form `ldRegIdx`. -/
noncomputable def ldRegIdxInstr (r : Reg8) (x : Index) (d : Byte) : Instr :=
  match r, x with
  | .B, .IX => .ld_B_atIXd d
  | .C, .IX => .ld_C_atIXd d
  | .D, .IX => .ld_D_atIXd d
  | .E, .IX => .ld_E_atIXd d
  | .H, .IX => .ld_H_atIXd d
  | .L, .IX => .ld_L_atIXd d
  | .A, .IX => .ld_A_atIXd d
  | .B, .IY => .ld_B_atIYd d
  | .C, .IY => .ld_C_atIYd d
  | .D, .IY => .ld_D_atIYd d
  | .E, .IY => .ld_E_atIYd d
  | .H, .IY => .ld_H_atIYd d
  | .L, .IY => .ld_L_atIYd d
  | .A, .IY => .ld_A_atIYd d

/-- The instruction of the form `ldHalfReg`. -/
noncomputable def ldHalfRegInstr (x : Index) (h : Half) (r : PlainReg) : Instr :=
  match x, h, r with
  | .IX, .H, .B => .ld_IXH_B
  | .IX, .H, .C => .ld_IXH_C
  | .IX, .H, .D => .ld_IXH_D
  | .IX, .H, .E => .ld_IXH_E
  | .IX, .H, .A => .ld_IXH_A
  | .IX, .L, .B => .ld_IXL_B
  | .IX, .L, .C => .ld_IXL_C
  | .IX, .L, .D => .ld_IXL_D
  | .IX, .L, .E => .ld_IXL_E
  | .IX, .L, .A => .ld_IXL_A
  | .IY, .H, .B => .ld_IYH_B
  | .IY, .H, .C => .ld_IYH_C
  | .IY, .H, .D => .ld_IYH_D
  | .IY, .H, .E => .ld_IYH_E
  | .IY, .H, .A => .ld_IYH_A
  | .IY, .L, .B => .ld_IYL_B
  | .IY, .L, .C => .ld_IYL_C
  | .IY, .L, .D => .ld_IYL_D
  | .IY, .L, .E => .ld_IYL_E
  | .IY, .L, .A => .ld_IYL_A

/-- The instruction of the form `ldHalfHalf`. -/
noncomputable def ldHalfHalfInstr (x : Index) (h : Half) (h' : Half) : Instr :=
  match x, h, h' with
  | .IX, .H, .H => .ld_IXH_IXH
  | .IX, .H, .L => .ld_IXH_IXL
  | .IX, .L, .H => .ld_IXL_IXH
  | .IX, .L, .L => .ld_IXL_IXL
  | .IY, .H, .H => .ld_IYH_IYH
  | .IY, .H, .L => .ld_IYH_IYL
  | .IY, .L, .H => .ld_IYL_IYH
  | .IY, .L, .L => .ld_IYL_IYL

/-- The instruction of the form `ldIdxReg`. -/
noncomputable def ldIdxRegInstr (x : Index) (d : Byte) (r : Reg8) : Instr :=
  match x, r with
  | .IX, .B => .ld_atIXd_B d
  | .IX, .C => .ld_atIXd_C d
  | .IX, .D => .ld_atIXd_D d
  | .IX, .E => .ld_atIXd_E d
  | .IX, .H => .ld_atIXd_H d
  | .IX, .L => .ld_atIXd_L d
  | .IX, .A => .ld_atIXd_A d
  | .IY, .B => .ld_atIYd_B d
  | .IY, .C => .ld_atIYd_C d
  | .IY, .D => .ld_atIYd_D d
  | .IY, .E => .ld_atIYd_E d
  | .IY, .H => .ld_atIYd_H d
  | .IY, .L => .ld_atIYd_L d
  | .IY, .A => .ld_atIYd_A d

/-- The instruction of the form `aluHalf`. -/
noncomputable def aluHalfInstr (op : AluOp) (x : Index) (h : Half) : Instr :=
  match op, x, h with
  | .add, .IX, .H => .add_A_IXH
  | .add, .IX, .L => .add_A_IXL
  | .adc, .IX, .H => .adc_A_IXH
  | .adc, .IX, .L => .adc_A_IXL
  | .sub, .IX, .H => .sub_IXH
  | .sub, .IX, .L => .sub_IXL
  | .sbc, .IX, .H => .sbc_A_IXH
  | .sbc, .IX, .L => .sbc_A_IXL
  | .and, .IX, .H => .and_IXH
  | .and, .IX, .L => .and_IXL
  | .xor, .IX, .H => .xor_IXH
  | .xor, .IX, .L => .xor_IXL
  | .or, .IX, .H => .or_IXH
  | .or, .IX, .L => .or_IXL
  | .cp, .IX, .H => .cp_IXH
  | .cp, .IX, .L => .cp_IXL
  | .add, .IY, .H => .add_A_IYH
  | .add, .IY, .L => .add_A_IYL
  | .adc, .IY, .H => .adc_A_IYH
  | .adc, .IY, .L => .adc_A_IYL
  | .sub, .IY, .H => .sub_IYH
  | .sub, .IY, .L => .sub_IYL
  | .sbc, .IY, .H => .sbc_A_IYH
  | .sbc, .IY, .L => .sbc_A_IYL
  | .and, .IY, .H => .and_IYH
  | .and, .IY, .L => .and_IYL
  | .xor, .IY, .H => .xor_IYH
  | .xor, .IY, .L => .xor_IYL
  | .or, .IY, .H => .or_IYH
  | .or, .IY, .L => .or_IYL
  | .cp, .IY, .H => .cp_IYH
  | .cp, .IY, .L => .cp_IYL

/-- The instruction of the form `aluIdx`. -/
noncomputable def aluIdxInstr (op : AluOp) (x : Index) (d : Byte) : Instr :=
  match op, x with
  | .add, .IX => .add_A_atIXd d
  | .adc, .IX => .adc_A_atIXd d
  | .sub, .IX => .sub_atIXd d
  | .sbc, .IX => .sbc_A_atIXd d
  | .and, .IX => .and_atIXd d
  | .xor, .IX => .xor_atIXd d
  | .or, .IX => .or_atIXd d
  | .cp, .IX => .cp_atIXd d
  | .add, .IY => .add_A_atIYd d
  | .adc, .IY => .adc_A_atIYd d
  | .sub, .IY => .sub_atIYd d
  | .sbc, .IY => .sbc_A_atIYd d
  | .and, .IY => .and_atIYd d
  | .xor, .IY => .xor_atIYd d
  | .or, .IY => .or_atIYd d
  | .cp, .IY => .cp_atIYd d

/-- The instructions of `rotIdx` with k = rlc. -/
noncomputable def rotIdxRlc (x : Index) (d : Byte) (copy : Option Reg8) : Instr :=
  match x, copy with
  | .IX, some .B => .rlc_atIXd_to_B d
  | .IX, some .C => .rlc_atIXd_to_C d
  | .IX, some .D => .rlc_atIXd_to_D d
  | .IX, some .E => .rlc_atIXd_to_E d
  | .IX, some .H => .rlc_atIXd_to_H d
  | .IX, some .L => .rlc_atIXd_to_L d
  | .IX, none => .rlc_atIXd d
  | .IX, some .A => .rlc_atIXd_to_A d
  | .IY, some .B => .rlc_atIYd_to_B d
  | .IY, some .C => .rlc_atIYd_to_C d
  | .IY, some .D => .rlc_atIYd_to_D d
  | .IY, some .E => .rlc_atIYd_to_E d
  | .IY, some .H => .rlc_atIYd_to_H d
  | .IY, some .L => .rlc_atIYd_to_L d
  | .IY, none => .rlc_atIYd d
  | .IY, some .A => .rlc_atIYd_to_A d

/-- The instructions of `rotIdx` with k = rrc. -/
noncomputable def rotIdxRrc (x : Index) (d : Byte) (copy : Option Reg8) : Instr :=
  match x, copy with
  | .IX, some .B => .rrc_atIXd_to_B d
  | .IX, some .C => .rrc_atIXd_to_C d
  | .IX, some .D => .rrc_atIXd_to_D d
  | .IX, some .E => .rrc_atIXd_to_E d
  | .IX, some .H => .rrc_atIXd_to_H d
  | .IX, some .L => .rrc_atIXd_to_L d
  | .IX, none => .rrc_atIXd d
  | .IX, some .A => .rrc_atIXd_to_A d
  | .IY, some .B => .rrc_atIYd_to_B d
  | .IY, some .C => .rrc_atIYd_to_C d
  | .IY, some .D => .rrc_atIYd_to_D d
  | .IY, some .E => .rrc_atIYd_to_E d
  | .IY, some .H => .rrc_atIYd_to_H d
  | .IY, some .L => .rrc_atIYd_to_L d
  | .IY, none => .rrc_atIYd d
  | .IY, some .A => .rrc_atIYd_to_A d

/-- The instructions of `rotIdx` with k = rl. -/
noncomputable def rotIdxRl (x : Index) (d : Byte) (copy : Option Reg8) : Instr :=
  match x, copy with
  | .IX, some .B => .rl_atIXd_to_B d
  | .IX, some .C => .rl_atIXd_to_C d
  | .IX, some .D => .rl_atIXd_to_D d
  | .IX, some .E => .rl_atIXd_to_E d
  | .IX, some .H => .rl_atIXd_to_H d
  | .IX, some .L => .rl_atIXd_to_L d
  | .IX, none => .rl_atIXd d
  | .IX, some .A => .rl_atIXd_to_A d
  | .IY, some .B => .rl_atIYd_to_B d
  | .IY, some .C => .rl_atIYd_to_C d
  | .IY, some .D => .rl_atIYd_to_D d
  | .IY, some .E => .rl_atIYd_to_E d
  | .IY, some .H => .rl_atIYd_to_H d
  | .IY, some .L => .rl_atIYd_to_L d
  | .IY, none => .rl_atIYd d
  | .IY, some .A => .rl_atIYd_to_A d

/-- The instructions of `rotIdx` with k = rr. -/
noncomputable def rotIdxRr (x : Index) (d : Byte) (copy : Option Reg8) : Instr :=
  match x, copy with
  | .IX, some .B => .rr_atIXd_to_B d
  | .IX, some .C => .rr_atIXd_to_C d
  | .IX, some .D => .rr_atIXd_to_D d
  | .IX, some .E => .rr_atIXd_to_E d
  | .IX, some .H => .rr_atIXd_to_H d
  | .IX, some .L => .rr_atIXd_to_L d
  | .IX, none => .rr_atIXd d
  | .IX, some .A => .rr_atIXd_to_A d
  | .IY, some .B => .rr_atIYd_to_B d
  | .IY, some .C => .rr_atIYd_to_C d
  | .IY, some .D => .rr_atIYd_to_D d
  | .IY, some .E => .rr_atIYd_to_E d
  | .IY, some .H => .rr_atIYd_to_H d
  | .IY, some .L => .rr_atIYd_to_L d
  | .IY, none => .rr_atIYd d
  | .IY, some .A => .rr_atIYd_to_A d

/-- The instructions of `rotIdx` with k = sla. -/
noncomputable def rotIdxSla (x : Index) (d : Byte) (copy : Option Reg8) : Instr :=
  match x, copy with
  | .IX, some .B => .sla_atIXd_to_B d
  | .IX, some .C => .sla_atIXd_to_C d
  | .IX, some .D => .sla_atIXd_to_D d
  | .IX, some .E => .sla_atIXd_to_E d
  | .IX, some .H => .sla_atIXd_to_H d
  | .IX, some .L => .sla_atIXd_to_L d
  | .IX, none => .sla_atIXd d
  | .IX, some .A => .sla_atIXd_to_A d
  | .IY, some .B => .sla_atIYd_to_B d
  | .IY, some .C => .sla_atIYd_to_C d
  | .IY, some .D => .sla_atIYd_to_D d
  | .IY, some .E => .sla_atIYd_to_E d
  | .IY, some .H => .sla_atIYd_to_H d
  | .IY, some .L => .sla_atIYd_to_L d
  | .IY, none => .sla_atIYd d
  | .IY, some .A => .sla_atIYd_to_A d

/-- The instructions of `rotIdx` with k = sra. -/
noncomputable def rotIdxSra (x : Index) (d : Byte) (copy : Option Reg8) : Instr :=
  match x, copy with
  | .IX, some .B => .sra_atIXd_to_B d
  | .IX, some .C => .sra_atIXd_to_C d
  | .IX, some .D => .sra_atIXd_to_D d
  | .IX, some .E => .sra_atIXd_to_E d
  | .IX, some .H => .sra_atIXd_to_H d
  | .IX, some .L => .sra_atIXd_to_L d
  | .IX, none => .sra_atIXd d
  | .IX, some .A => .sra_atIXd_to_A d
  | .IY, some .B => .sra_atIYd_to_B d
  | .IY, some .C => .sra_atIYd_to_C d
  | .IY, some .D => .sra_atIYd_to_D d
  | .IY, some .E => .sra_atIYd_to_E d
  | .IY, some .H => .sra_atIYd_to_H d
  | .IY, some .L => .sra_atIYd_to_L d
  | .IY, none => .sra_atIYd d
  | .IY, some .A => .sra_atIYd_to_A d

/-- The instructions of `rotIdx` with k = sll. -/
noncomputable def rotIdxSll (x : Index) (d : Byte) (copy : Option Reg8) : Instr :=
  match x, copy with
  | .IX, some .B => .sll_atIXd_to_B d
  | .IX, some .C => .sll_atIXd_to_C d
  | .IX, some .D => .sll_atIXd_to_D d
  | .IX, some .E => .sll_atIXd_to_E d
  | .IX, some .H => .sll_atIXd_to_H d
  | .IX, some .L => .sll_atIXd_to_L d
  | .IX, none => .sll_atIXd d
  | .IX, some .A => .sll_atIXd_to_A d
  | .IY, some .B => .sll_atIYd_to_B d
  | .IY, some .C => .sll_atIYd_to_C d
  | .IY, some .D => .sll_atIYd_to_D d
  | .IY, some .E => .sll_atIYd_to_E d
  | .IY, some .H => .sll_atIYd_to_H d
  | .IY, some .L => .sll_atIYd_to_L d
  | .IY, none => .sll_atIYd d
  | .IY, some .A => .sll_atIYd_to_A d

/-- The instructions of `rotIdx` with k = srl. -/
noncomputable def rotIdxSrl (x : Index) (d : Byte) (copy : Option Reg8) : Instr :=
  match x, copy with
  | .IX, some .B => .srl_atIXd_to_B d
  | .IX, some .C => .srl_atIXd_to_C d
  | .IX, some .D => .srl_atIXd_to_D d
  | .IX, some .E => .srl_atIXd_to_E d
  | .IX, some .H => .srl_atIXd_to_H d
  | .IX, some .L => .srl_atIXd_to_L d
  | .IX, none => .srl_atIXd d
  | .IX, some .A => .srl_atIXd_to_A d
  | .IY, some .B => .srl_atIYd_to_B d
  | .IY, some .C => .srl_atIYd_to_C d
  | .IY, some .D => .srl_atIYd_to_D d
  | .IY, some .E => .srl_atIYd_to_E d
  | .IY, some .H => .srl_atIYd_to_H d
  | .IY, some .L => .srl_atIYd_to_L d
  | .IY, none => .srl_atIYd d
  | .IY, some .A => .srl_atIYd_to_A d

/-- The instruction of the form `rotIdx`. -/
noncomputable def rotIdxInstr (k : RotOp) (x : Index) (d : Byte) (copy : Option Reg8) : Instr :=
  match k with
  | .rlc => rotIdxRlc x d copy
  | .rrc => rotIdxRrc x d copy
  | .rl => rotIdxRl x d copy
  | .rr => rotIdxRr x d copy
  | .sla => rotIdxSla x d copy
  | .sra => rotIdxSra x d copy
  | .sll => rotIdxSll x d copy
  | .srl => rotIdxSrl x d copy

/-- The instruction of the form `bitIdx`. -/
noncomputable def bitIdxInstr (b : BitNo) (x : Index) (d : Byte) (z : BitVec 3) : Instr :=
  match b, x with
  | .b0, .IX => .bit_0_atIXd d z
  | .b1, .IX => .bit_1_atIXd d z
  | .b2, .IX => .bit_2_atIXd d z
  | .b3, .IX => .bit_3_atIXd d z
  | .b4, .IX => .bit_4_atIXd d z
  | .b5, .IX => .bit_5_atIXd d z
  | .b6, .IX => .bit_6_atIXd d z
  | .b7, .IX => .bit_7_atIXd d z
  | .b0, .IY => .bit_0_atIYd d z
  | .b1, .IY => .bit_1_atIYd d z
  | .b2, .IY => .bit_2_atIYd d z
  | .b3, .IY => .bit_3_atIYd d z
  | .b4, .IY => .bit_4_atIYd d z
  | .b5, .IY => .bit_5_atIYd d z
  | .b6, .IY => .bit_6_atIYd d z
  | .b7, .IY => .bit_7_atIYd d z

/-- The instructions of `chgIdx` with set = false. -/
noncomputable def chgIdxFalse (b : BitNo) (x : Index) (d : Byte) (copy : Option Reg8) : Instr :=
  match b, x, copy with
  | .b0, .IX, some .B => .res_0_atIXd_to_B d
  | .b0, .IX, some .C => .res_0_atIXd_to_C d
  | .b0, .IX, some .D => .res_0_atIXd_to_D d
  | .b0, .IX, some .E => .res_0_atIXd_to_E d
  | .b0, .IX, some .H => .res_0_atIXd_to_H d
  | .b0, .IX, some .L => .res_0_atIXd_to_L d
  | .b0, .IX, none => .res_0_atIXd d
  | .b0, .IX, some .A => .res_0_atIXd_to_A d
  | .b1, .IX, some .B => .res_1_atIXd_to_B d
  | .b1, .IX, some .C => .res_1_atIXd_to_C d
  | .b1, .IX, some .D => .res_1_atIXd_to_D d
  | .b1, .IX, some .E => .res_1_atIXd_to_E d
  | .b1, .IX, some .H => .res_1_atIXd_to_H d
  | .b1, .IX, some .L => .res_1_atIXd_to_L d
  | .b1, .IX, none => .res_1_atIXd d
  | .b1, .IX, some .A => .res_1_atIXd_to_A d
  | .b2, .IX, some .B => .res_2_atIXd_to_B d
  | .b2, .IX, some .C => .res_2_atIXd_to_C d
  | .b2, .IX, some .D => .res_2_atIXd_to_D d
  | .b2, .IX, some .E => .res_2_atIXd_to_E d
  | .b2, .IX, some .H => .res_2_atIXd_to_H d
  | .b2, .IX, some .L => .res_2_atIXd_to_L d
  | .b2, .IX, none => .res_2_atIXd d
  | .b2, .IX, some .A => .res_2_atIXd_to_A d
  | .b3, .IX, some .B => .res_3_atIXd_to_B d
  | .b3, .IX, some .C => .res_3_atIXd_to_C d
  | .b3, .IX, some .D => .res_3_atIXd_to_D d
  | .b3, .IX, some .E => .res_3_atIXd_to_E d
  | .b3, .IX, some .H => .res_3_atIXd_to_H d
  | .b3, .IX, some .L => .res_3_atIXd_to_L d
  | .b3, .IX, none => .res_3_atIXd d
  | .b3, .IX, some .A => .res_3_atIXd_to_A d
  | .b4, .IX, some .B => .res_4_atIXd_to_B d
  | .b4, .IX, some .C => .res_4_atIXd_to_C d
  | .b4, .IX, some .D => .res_4_atIXd_to_D d
  | .b4, .IX, some .E => .res_4_atIXd_to_E d
  | .b4, .IX, some .H => .res_4_atIXd_to_H d
  | .b4, .IX, some .L => .res_4_atIXd_to_L d
  | .b4, .IX, none => .res_4_atIXd d
  | .b4, .IX, some .A => .res_4_atIXd_to_A d
  | .b5, .IX, some .B => .res_5_atIXd_to_B d
  | .b5, .IX, some .C => .res_5_atIXd_to_C d
  | .b5, .IX, some .D => .res_5_atIXd_to_D d
  | .b5, .IX, some .E => .res_5_atIXd_to_E d
  | .b5, .IX, some .H => .res_5_atIXd_to_H d
  | .b5, .IX, some .L => .res_5_atIXd_to_L d
  | .b5, .IX, none => .res_5_atIXd d
  | .b5, .IX, some .A => .res_5_atIXd_to_A d
  | .b6, .IX, some .B => .res_6_atIXd_to_B d
  | .b6, .IX, some .C => .res_6_atIXd_to_C d
  | .b6, .IX, some .D => .res_6_atIXd_to_D d
  | .b6, .IX, some .E => .res_6_atIXd_to_E d
  | .b6, .IX, some .H => .res_6_atIXd_to_H d
  | .b6, .IX, some .L => .res_6_atIXd_to_L d
  | .b6, .IX, none => .res_6_atIXd d
  | .b6, .IX, some .A => .res_6_atIXd_to_A d
  | .b7, .IX, some .B => .res_7_atIXd_to_B d
  | .b7, .IX, some .C => .res_7_atIXd_to_C d
  | .b7, .IX, some .D => .res_7_atIXd_to_D d
  | .b7, .IX, some .E => .res_7_atIXd_to_E d
  | .b7, .IX, some .H => .res_7_atIXd_to_H d
  | .b7, .IX, some .L => .res_7_atIXd_to_L d
  | .b7, .IX, none => .res_7_atIXd d
  | .b7, .IX, some .A => .res_7_atIXd_to_A d
  | .b0, .IY, some .B => .res_0_atIYd_to_B d
  | .b0, .IY, some .C => .res_0_atIYd_to_C d
  | .b0, .IY, some .D => .res_0_atIYd_to_D d
  | .b0, .IY, some .E => .res_0_atIYd_to_E d
  | .b0, .IY, some .H => .res_0_atIYd_to_H d
  | .b0, .IY, some .L => .res_0_atIYd_to_L d
  | .b0, .IY, none => .res_0_atIYd d
  | .b0, .IY, some .A => .res_0_atIYd_to_A d
  | .b1, .IY, some .B => .res_1_atIYd_to_B d
  | .b1, .IY, some .C => .res_1_atIYd_to_C d
  | .b1, .IY, some .D => .res_1_atIYd_to_D d
  | .b1, .IY, some .E => .res_1_atIYd_to_E d
  | .b1, .IY, some .H => .res_1_atIYd_to_H d
  | .b1, .IY, some .L => .res_1_atIYd_to_L d
  | .b1, .IY, none => .res_1_atIYd d
  | .b1, .IY, some .A => .res_1_atIYd_to_A d
  | .b2, .IY, some .B => .res_2_atIYd_to_B d
  | .b2, .IY, some .C => .res_2_atIYd_to_C d
  | .b2, .IY, some .D => .res_2_atIYd_to_D d
  | .b2, .IY, some .E => .res_2_atIYd_to_E d
  | .b2, .IY, some .H => .res_2_atIYd_to_H d
  | .b2, .IY, some .L => .res_2_atIYd_to_L d
  | .b2, .IY, none => .res_2_atIYd d
  | .b2, .IY, some .A => .res_2_atIYd_to_A d
  | .b3, .IY, some .B => .res_3_atIYd_to_B d
  | .b3, .IY, some .C => .res_3_atIYd_to_C d
  | .b3, .IY, some .D => .res_3_atIYd_to_D d
  | .b3, .IY, some .E => .res_3_atIYd_to_E d
  | .b3, .IY, some .H => .res_3_atIYd_to_H d
  | .b3, .IY, some .L => .res_3_atIYd_to_L d
  | .b3, .IY, none => .res_3_atIYd d
  | .b3, .IY, some .A => .res_3_atIYd_to_A d
  | .b4, .IY, some .B => .res_4_atIYd_to_B d
  | .b4, .IY, some .C => .res_4_atIYd_to_C d
  | .b4, .IY, some .D => .res_4_atIYd_to_D d
  | .b4, .IY, some .E => .res_4_atIYd_to_E d
  | .b4, .IY, some .H => .res_4_atIYd_to_H d
  | .b4, .IY, some .L => .res_4_atIYd_to_L d
  | .b4, .IY, none => .res_4_atIYd d
  | .b4, .IY, some .A => .res_4_atIYd_to_A d
  | .b5, .IY, some .B => .res_5_atIYd_to_B d
  | .b5, .IY, some .C => .res_5_atIYd_to_C d
  | .b5, .IY, some .D => .res_5_atIYd_to_D d
  | .b5, .IY, some .E => .res_5_atIYd_to_E d
  | .b5, .IY, some .H => .res_5_atIYd_to_H d
  | .b5, .IY, some .L => .res_5_atIYd_to_L d
  | .b5, .IY, none => .res_5_atIYd d
  | .b5, .IY, some .A => .res_5_atIYd_to_A d
  | .b6, .IY, some .B => .res_6_atIYd_to_B d
  | .b6, .IY, some .C => .res_6_atIYd_to_C d
  | .b6, .IY, some .D => .res_6_atIYd_to_D d
  | .b6, .IY, some .E => .res_6_atIYd_to_E d
  | .b6, .IY, some .H => .res_6_atIYd_to_H d
  | .b6, .IY, some .L => .res_6_atIYd_to_L d
  | .b6, .IY, none => .res_6_atIYd d
  | .b6, .IY, some .A => .res_6_atIYd_to_A d
  | .b7, .IY, some .B => .res_7_atIYd_to_B d
  | .b7, .IY, some .C => .res_7_atIYd_to_C d
  | .b7, .IY, some .D => .res_7_atIYd_to_D d
  | .b7, .IY, some .E => .res_7_atIYd_to_E d
  | .b7, .IY, some .H => .res_7_atIYd_to_H d
  | .b7, .IY, some .L => .res_7_atIYd_to_L d
  | .b7, .IY, none => .res_7_atIYd d
  | .b7, .IY, some .A => .res_7_atIYd_to_A d

/-- The instructions of `chgIdx` with set = true. -/
noncomputable def chgIdxTrue (b : BitNo) (x : Index) (d : Byte) (copy : Option Reg8) : Instr :=
  match b, x, copy with
  | .b0, .IX, some .B => .set_0_atIXd_to_B d
  | .b0, .IX, some .C => .set_0_atIXd_to_C d
  | .b0, .IX, some .D => .set_0_atIXd_to_D d
  | .b0, .IX, some .E => .set_0_atIXd_to_E d
  | .b0, .IX, some .H => .set_0_atIXd_to_H d
  | .b0, .IX, some .L => .set_0_atIXd_to_L d
  | .b0, .IX, none => .set_0_atIXd d
  | .b0, .IX, some .A => .set_0_atIXd_to_A d
  | .b1, .IX, some .B => .set_1_atIXd_to_B d
  | .b1, .IX, some .C => .set_1_atIXd_to_C d
  | .b1, .IX, some .D => .set_1_atIXd_to_D d
  | .b1, .IX, some .E => .set_1_atIXd_to_E d
  | .b1, .IX, some .H => .set_1_atIXd_to_H d
  | .b1, .IX, some .L => .set_1_atIXd_to_L d
  | .b1, .IX, none => .set_1_atIXd d
  | .b1, .IX, some .A => .set_1_atIXd_to_A d
  | .b2, .IX, some .B => .set_2_atIXd_to_B d
  | .b2, .IX, some .C => .set_2_atIXd_to_C d
  | .b2, .IX, some .D => .set_2_atIXd_to_D d
  | .b2, .IX, some .E => .set_2_atIXd_to_E d
  | .b2, .IX, some .H => .set_2_atIXd_to_H d
  | .b2, .IX, some .L => .set_2_atIXd_to_L d
  | .b2, .IX, none => .set_2_atIXd d
  | .b2, .IX, some .A => .set_2_atIXd_to_A d
  | .b3, .IX, some .B => .set_3_atIXd_to_B d
  | .b3, .IX, some .C => .set_3_atIXd_to_C d
  | .b3, .IX, some .D => .set_3_atIXd_to_D d
  | .b3, .IX, some .E => .set_3_atIXd_to_E d
  | .b3, .IX, some .H => .set_3_atIXd_to_H d
  | .b3, .IX, some .L => .set_3_atIXd_to_L d
  | .b3, .IX, none => .set_3_atIXd d
  | .b3, .IX, some .A => .set_3_atIXd_to_A d
  | .b4, .IX, some .B => .set_4_atIXd_to_B d
  | .b4, .IX, some .C => .set_4_atIXd_to_C d
  | .b4, .IX, some .D => .set_4_atIXd_to_D d
  | .b4, .IX, some .E => .set_4_atIXd_to_E d
  | .b4, .IX, some .H => .set_4_atIXd_to_H d
  | .b4, .IX, some .L => .set_4_atIXd_to_L d
  | .b4, .IX, none => .set_4_atIXd d
  | .b4, .IX, some .A => .set_4_atIXd_to_A d
  | .b5, .IX, some .B => .set_5_atIXd_to_B d
  | .b5, .IX, some .C => .set_5_atIXd_to_C d
  | .b5, .IX, some .D => .set_5_atIXd_to_D d
  | .b5, .IX, some .E => .set_5_atIXd_to_E d
  | .b5, .IX, some .H => .set_5_atIXd_to_H d
  | .b5, .IX, some .L => .set_5_atIXd_to_L d
  | .b5, .IX, none => .set_5_atIXd d
  | .b5, .IX, some .A => .set_5_atIXd_to_A d
  | .b6, .IX, some .B => .set_6_atIXd_to_B d
  | .b6, .IX, some .C => .set_6_atIXd_to_C d
  | .b6, .IX, some .D => .set_6_atIXd_to_D d
  | .b6, .IX, some .E => .set_6_atIXd_to_E d
  | .b6, .IX, some .H => .set_6_atIXd_to_H d
  | .b6, .IX, some .L => .set_6_atIXd_to_L d
  | .b6, .IX, none => .set_6_atIXd d
  | .b6, .IX, some .A => .set_6_atIXd_to_A d
  | .b7, .IX, some .B => .set_7_atIXd_to_B d
  | .b7, .IX, some .C => .set_7_atIXd_to_C d
  | .b7, .IX, some .D => .set_7_atIXd_to_D d
  | .b7, .IX, some .E => .set_7_atIXd_to_E d
  | .b7, .IX, some .H => .set_7_atIXd_to_H d
  | .b7, .IX, some .L => .set_7_atIXd_to_L d
  | .b7, .IX, none => .set_7_atIXd d
  | .b7, .IX, some .A => .set_7_atIXd_to_A d
  | .b0, .IY, some .B => .set_0_atIYd_to_B d
  | .b0, .IY, some .C => .set_0_atIYd_to_C d
  | .b0, .IY, some .D => .set_0_atIYd_to_D d
  | .b0, .IY, some .E => .set_0_atIYd_to_E d
  | .b0, .IY, some .H => .set_0_atIYd_to_H d
  | .b0, .IY, some .L => .set_0_atIYd_to_L d
  | .b0, .IY, none => .set_0_atIYd d
  | .b0, .IY, some .A => .set_0_atIYd_to_A d
  | .b1, .IY, some .B => .set_1_atIYd_to_B d
  | .b1, .IY, some .C => .set_1_atIYd_to_C d
  | .b1, .IY, some .D => .set_1_atIYd_to_D d
  | .b1, .IY, some .E => .set_1_atIYd_to_E d
  | .b1, .IY, some .H => .set_1_atIYd_to_H d
  | .b1, .IY, some .L => .set_1_atIYd_to_L d
  | .b1, .IY, none => .set_1_atIYd d
  | .b1, .IY, some .A => .set_1_atIYd_to_A d
  | .b2, .IY, some .B => .set_2_atIYd_to_B d
  | .b2, .IY, some .C => .set_2_atIYd_to_C d
  | .b2, .IY, some .D => .set_2_atIYd_to_D d
  | .b2, .IY, some .E => .set_2_atIYd_to_E d
  | .b2, .IY, some .H => .set_2_atIYd_to_H d
  | .b2, .IY, some .L => .set_2_atIYd_to_L d
  | .b2, .IY, none => .set_2_atIYd d
  | .b2, .IY, some .A => .set_2_atIYd_to_A d
  | .b3, .IY, some .B => .set_3_atIYd_to_B d
  | .b3, .IY, some .C => .set_3_atIYd_to_C d
  | .b3, .IY, some .D => .set_3_atIYd_to_D d
  | .b3, .IY, some .E => .set_3_atIYd_to_E d
  | .b3, .IY, some .H => .set_3_atIYd_to_H d
  | .b3, .IY, some .L => .set_3_atIYd_to_L d
  | .b3, .IY, none => .set_3_atIYd d
  | .b3, .IY, some .A => .set_3_atIYd_to_A d
  | .b4, .IY, some .B => .set_4_atIYd_to_B d
  | .b4, .IY, some .C => .set_4_atIYd_to_C d
  | .b4, .IY, some .D => .set_4_atIYd_to_D d
  | .b4, .IY, some .E => .set_4_atIYd_to_E d
  | .b4, .IY, some .H => .set_4_atIYd_to_H d
  | .b4, .IY, some .L => .set_4_atIYd_to_L d
  | .b4, .IY, none => .set_4_atIYd d
  | .b4, .IY, some .A => .set_4_atIYd_to_A d
  | .b5, .IY, some .B => .set_5_atIYd_to_B d
  | .b5, .IY, some .C => .set_5_atIYd_to_C d
  | .b5, .IY, some .D => .set_5_atIYd_to_D d
  | .b5, .IY, some .E => .set_5_atIYd_to_E d
  | .b5, .IY, some .H => .set_5_atIYd_to_H d
  | .b5, .IY, some .L => .set_5_atIYd_to_L d
  | .b5, .IY, none => .set_5_atIYd d
  | .b5, .IY, some .A => .set_5_atIYd_to_A d
  | .b6, .IY, some .B => .set_6_atIYd_to_B d
  | .b6, .IY, some .C => .set_6_atIYd_to_C d
  | .b6, .IY, some .D => .set_6_atIYd_to_D d
  | .b6, .IY, some .E => .set_6_atIYd_to_E d
  | .b6, .IY, some .H => .set_6_atIYd_to_H d
  | .b6, .IY, some .L => .set_6_atIYd_to_L d
  | .b6, .IY, none => .set_6_atIYd d
  | .b6, .IY, some .A => .set_6_atIYd_to_A d
  | .b7, .IY, some .B => .set_7_atIYd_to_B d
  | .b7, .IY, some .C => .set_7_atIYd_to_C d
  | .b7, .IY, some .D => .set_7_atIYd_to_D d
  | .b7, .IY, some .E => .set_7_atIYd_to_E d
  | .b7, .IY, some .H => .set_7_atIYd_to_H d
  | .b7, .IY, some .L => .set_7_atIYd_to_L d
  | .b7, .IY, none => .set_7_atIYd d
  | .b7, .IY, some .A => .set_7_atIYd_to_A d

/-- The instruction of the form `chgIdx`. -/
noncomputable def chgIdxInstr (set : Bool) (b : BitNo) (x : Index) (d : Byte) (copy : Option Reg8) : Instr :=
  match set with
  | false => chgIdxFalse b x d copy
  | true => chgIdxTrue b x d copy

/-- The instruction of the form `popIndex`. -/
noncomputable def popIndexInstr (x : Index) : Instr :=
  match x with
  | .IX => .pop_IX
  | .IY => .pop_IY

/-- The instruction of the form `exSpIndex`. -/
noncomputable def exSpIndexInstr (x : Index) : Instr :=
  match x with
  | .IX => .ex_atSP_IX
  | .IY => .ex_atSP_IY

/-- The instruction of the form `pushIndex`. -/
noncomputable def pushIndexInstr (x : Index) : Instr :=
  match x with
  | .IX => .push_IX
  | .IY => .push_IY

/-- The instruction of the form `jpIndex`. -/
noncomputable def jpIndexInstr (x : Index) : Instr :=
  match x with
  | .IX => .jp_atIX
  | .IY => .jp_atIY

/-- The instruction of the form `ldSpIndex`. -/
noncomputable def ldSpIndexInstr (x : Index) : Instr :=
  match x with
  | .IX => .ld_SP_IX
  | .IY => .ld_SP_IY

/-- The constructor of `Instr` that stands for a form. -/
noncomputable def Form.toInstr : Form → Instr
  | .nop => .nop
  | .ldPairImm p nn => ldPairImmInstr p nn
  | .ldIndAcc p => ldIndAccInstr p
  | .incPair p => incPairInstr p
  | .incReg r => incRegInstr r
  | .decReg r => decRegInstr r
  | .ldRegImm d n => ldRegImmInstr d n
  | .accRot k => accRotInstr k
  | .exAf => .ex_AF_AFalt
  | .addHl p => addHlInstr p
  | .ldAccInd p => ldAccIndInstr p
  | .decPair p => decPairInstr p
  | .djnz e => .djnz_e e
  | .jr e => .jr_e e
  | .jrCond cc e => jrCondInstr cc e
  | .ldAbsHl nn => .ld_atnn_HL nn
  | .daa => .daa
  | .ldHlAbs nn => .ld_HL_atnn nn
  | .cpl => .cpl
  | .ldAbsAcc nn => .ld_atnn_A nn
  | .incMem => .inc_atHL
  | .decMem => .dec_atHL
  | .ldMemImm n => .ld_atHL_n n
  | .scf => .scf
  | .ldAccAbs nn => .ld_A_atnn nn
  | .ccf => .ccf
  | .ldRegReg d r => ldRegRegInstr d r
  | .ldRegMem d => ldRegMemInstr d
  | .ldMemReg r => ldMemRegInstr r
  | .halt => .halt
  | .aluReg op r => aluRegInstr op r
  | .aluMem op => aluMemInstr op
  | .retCond cc => retCondInstr cc
  | .popPair q => popPairInstr q
  | .jpCond cc nn => jpCondInstr cc nn
  | .jp nn => .jp_nn nn
  | .callCond cc nn => callCondInstr cc nn
  | .pushPair q => pushPairInstr q
  | .aluImm op n => aluImmInstr op n
  | .rst t => rstInstr t
  | .ret => .ret
  | .call nn => .call_nn nn
  | .outAcc n => .out_atn_A n
  | .exx => .exx
  | .inAcc n => .in_A_atn n
  | .exSpHl => .ex_atSP_HL
  | .jpHl => .jp_atHL
  | .exDeHl => .ex_DE_HL
  | .di => .di
  | .ldSpHl => .ld_SP_HL
  | .ei => .ei
  | .rotReg k r => rotRegInstr k r
  | .rotMem k => rotMemInstr k
  | .bitReg b r => bitRegInstr b r
  | .bitMem b => bitMemInstr b
  | .chgReg set b r => chgRegInstr set b r
  | .chgMem set b => chgMemInstr set b
  | .inReg r => inRegInstr r
  | .outReg r => outRegInstr r
  | .sbcHl p => sbcHlInstr p
  | .ldAbsPair p nn => ldAbsPairInstr p nn
  | .neg => .neg
  | .retn => .retn
  | .im m => imInstr m
  | .ldSpecialAcc q => ldSpecialAccInstr q
  | .adcHl p => adcHlInstr p
  | .ldPairAbs p nn => ldPairAbsInstr p nn
  | .reti => .reti
  | .ldAccSpecial q => ldAccSpecialInstr q
  | .rrd => .rrd
  | .rld => .rld
  | .block k => blockInstr k
  | .addIndex x p => addIndexInstr x p
  | .ldIndexImm x nn => ldIndexImmInstr x nn
  | .ldAbsIndex x nn => ldAbsIndexInstr x nn
  | .incIndex x => incIndexInstr x
  | .incHalf x h => incHalfInstr x h
  | .decHalf x h => decHalfInstr x h
  | .ldHalfImm x h n => ldHalfImmInstr x h n
  | .ldIndexAbs x nn => ldIndexAbsInstr x nn
  | .decIndex x => decIndexInstr x
  | .incIdx x d => incIdxInstr x d
  | .decIdx x d => decIdxInstr x d
  | .ldIdxImm x d n => ldIdxImmInstr x d n
  | .ldRegHalf d x h => ldRegHalfInstr d x h
  | .ldRegIdx r x d => ldRegIdxInstr r x d
  | .ldHalfReg x h r => ldHalfRegInstr x h r
  | .ldHalfHalf x h h' => ldHalfHalfInstr x h h'
  | .ldIdxReg x d r => ldIdxRegInstr x d r
  | .aluHalf op x h => aluHalfInstr op x h
  | .aluIdx op x d => aluIdxInstr op x d
  | .rotIdx k x d copy => rotIdxInstr k x d copy
  | .bitIdx b x d z => bitIdxInstr b x d z
  | .chgIdx set b x d copy => chgIdxInstr set b x d copy
  | .popIndex x => popIndexInstr x
  | .exSpIndex x => exSpIndexInstr x
  | .pushIndex x => pushIndexInstr x
  | .jpIndex x => jpIndexInstr x
  | .ldSpIndex x => ldSpIndexInstr x
  | .invalid p op => .invalid p op

/-- Why bytes decode to no instruction. -/
inductive DecodeError where
  /-- The list ends before the instruction does; raised by the fetch over a list. -/
  | truncated
  deriving DecidableEq, Repr

/-- Fetch over a list of bytes. -/
def listFetch (bytes : List Byte) (k : Nat) : Except DecodeError Byte :=
  match bytes[k]? with
  | some b => .ok b
  | none => .error .truncated

/-- Decode the form at the head of a list of bytes. -/
def decodeForm (bytes : List Byte) : Except DecodeError Form := decodeWith (listFetch bytes)

/-- Decode the instruction at the head of a list of bytes: the instruction and its length. -/
noncomputable def decode (bytes : List Byte) : Except DecodeError (Instr × Nat) :=
  match decodeForm bytes with
  | .ok g => .ok (g.toInstr, g.length)
  | .error e => .error e

/-! ## The encoder -/

/-- The sub-opcode of `BIT b,(xy+d)`: `01 bbb zzz` (R123). -/
def bitIdxSub (b : Nat) (z : BitVec 3) : Byte := (1 : BitVec 2) ++ BitVec.ofNat 3 b ++ z

/-- The bytes of an instruction, from the encoding column of the opcode table. -/
def encode (i : Instr) : List Byte :=
  match i with
  | .nop => [0x00]
  | .ld_BC_nn nn => [0x01, lo nn, hi nn]
  | .ld_atBC_A => [0x02]
  | .inc_BC => [0x03]
  | .inc_B => [0x04]
  | .dec_B => [0x05]
  | .ld_B_n n => [0x06, n]
  | .rlca => [0x07]
  | .ex_AF_AFalt => [0x08]
  | .add_HL_BC => [0x09]
  | .ld_A_atBC => [0x0A]
  | .dec_BC => [0x0B]
  | .inc_C => [0x0C]
  | .dec_C => [0x0D]
  | .ld_C_n n => [0x0E, n]
  | .rrca => [0x0F]
  | .djnz_e e => [0x10, e]
  | .ld_DE_nn nn => [0x11, lo nn, hi nn]
  | .ld_atDE_A => [0x12]
  | .inc_DE => [0x13]
  | .inc_D => [0x14]
  | .dec_D => [0x15]
  | .ld_D_n n => [0x16, n]
  | .rla => [0x17]
  | .jr_e e => [0x18, e]
  | .add_HL_DE => [0x19]
  | .ld_A_atDE => [0x1A]
  | .dec_DE => [0x1B]
  | .inc_E => [0x1C]
  | .dec_E => [0x1D]
  | .ld_E_n n => [0x1E, n]
  | .rra => [0x1F]
  | .jr_NZ_e e => [0x20, e]
  | .ld_HL_nn nn => [0x21, lo nn, hi nn]
  | .ld_atnn_HL nn => [0x22, lo nn, hi nn]
  | .inc_HL => [0x23]
  | .inc_H => [0x24]
  | .dec_H => [0x25]
  | .ld_H_n n => [0x26, n]
  | .daa => [0x27]
  | .jr_Z_e e => [0x28, e]
  | .add_HL_HL => [0x29]
  | .ld_HL_atnn nn => [0x2A, lo nn, hi nn]
  | .dec_HL => [0x2B]
  | .inc_L => [0x2C]
  | .dec_L => [0x2D]
  | .ld_L_n n => [0x2E, n]
  | .cpl => [0x2F]
  | .jr_NC_e e => [0x30, e]
  | .ld_SP_nn nn => [0x31, lo nn, hi nn]
  | .ld_atnn_A nn => [0x32, lo nn, hi nn]
  | .inc_SP => [0x33]
  | .inc_atHL => [0x34]
  | .dec_atHL => [0x35]
  | .ld_atHL_n n => [0x36, n]
  | .scf => [0x37]
  | .jr_C_e e => [0x38, e]
  | .add_HL_SP => [0x39]
  | .ld_A_atnn nn => [0x3A, lo nn, hi nn]
  | .dec_SP => [0x3B]
  | .inc_A => [0x3C]
  | .dec_A => [0x3D]
  | .ld_A_n n => [0x3E, n]
  | .ccf => [0x3F]
  | .ld_B_B => [0x40]
  | .ld_B_C => [0x41]
  | .ld_B_D => [0x42]
  | .ld_B_E => [0x43]
  | .ld_B_H => [0x44]
  | .ld_B_L => [0x45]
  | .ld_B_atHL => [0x46]
  | .ld_B_A => [0x47]
  | .ld_C_B => [0x48]
  | .ld_C_C => [0x49]
  | .ld_C_D => [0x4A]
  | .ld_C_E => [0x4B]
  | .ld_C_H => [0x4C]
  | .ld_C_L => [0x4D]
  | .ld_C_atHL => [0x4E]
  | .ld_C_A => [0x4F]
  | .ld_D_B => [0x50]
  | .ld_D_C => [0x51]
  | .ld_D_D => [0x52]
  | .ld_D_E => [0x53]
  | .ld_D_H => [0x54]
  | .ld_D_L => [0x55]
  | .ld_D_atHL => [0x56]
  | .ld_D_A => [0x57]
  | .ld_E_B => [0x58]
  | .ld_E_C => [0x59]
  | .ld_E_D => [0x5A]
  | .ld_E_E => [0x5B]
  | .ld_E_H => [0x5C]
  | .ld_E_L => [0x5D]
  | .ld_E_atHL => [0x5E]
  | .ld_E_A => [0x5F]
  | .ld_H_B => [0x60]
  | .ld_H_C => [0x61]
  | .ld_H_D => [0x62]
  | .ld_H_E => [0x63]
  | .ld_H_H => [0x64]
  | .ld_H_L => [0x65]
  | .ld_H_atHL => [0x66]
  | .ld_H_A => [0x67]
  | .ld_L_B => [0x68]
  | .ld_L_C => [0x69]
  | .ld_L_D => [0x6A]
  | .ld_L_E => [0x6B]
  | .ld_L_H => [0x6C]
  | .ld_L_L => [0x6D]
  | .ld_L_atHL => [0x6E]
  | .ld_L_A => [0x6F]
  | .ld_atHL_B => [0x70]
  | .ld_atHL_C => [0x71]
  | .ld_atHL_D => [0x72]
  | .ld_atHL_E => [0x73]
  | .ld_atHL_H => [0x74]
  | .ld_atHL_L => [0x75]
  | .halt => [0x76]
  | .ld_atHL_A => [0x77]
  | .ld_A_B => [0x78]
  | .ld_A_C => [0x79]
  | .ld_A_D => [0x7A]
  | .ld_A_E => [0x7B]
  | .ld_A_H => [0x7C]
  | .ld_A_L => [0x7D]
  | .ld_A_atHL => [0x7E]
  | .ld_A_A => [0x7F]
  | .add_A_B => [0x80]
  | .add_A_C => [0x81]
  | .add_A_D => [0x82]
  | .add_A_E => [0x83]
  | .add_A_H => [0x84]
  | .add_A_L => [0x85]
  | .add_A_atHL => [0x86]
  | .add_A_A => [0x87]
  | .adc_A_B => [0x88]
  | .adc_A_C => [0x89]
  | .adc_A_D => [0x8A]
  | .adc_A_E => [0x8B]
  | .adc_A_H => [0x8C]
  | .adc_A_L => [0x8D]
  | .adc_A_atHL => [0x8E]
  | .adc_A_A => [0x8F]
  | .sub_B => [0x90]
  | .sub_C => [0x91]
  | .sub_D => [0x92]
  | .sub_E => [0x93]
  | .sub_H => [0x94]
  | .sub_L => [0x95]
  | .sub_atHL => [0x96]
  | .sub_A => [0x97]
  | .sbc_A_B => [0x98]
  | .sbc_A_C => [0x99]
  | .sbc_A_D => [0x9A]
  | .sbc_A_E => [0x9B]
  | .sbc_A_H => [0x9C]
  | .sbc_A_L => [0x9D]
  | .sbc_A_atHL => [0x9E]
  | .sbc_A_A => [0x9F]
  | .and_B => [0xA0]
  | .and_C => [0xA1]
  | .and_D => [0xA2]
  | .and_E => [0xA3]
  | .and_H => [0xA4]
  | .and_L => [0xA5]
  | .and_atHL => [0xA6]
  | .and_A => [0xA7]
  | .xor_B => [0xA8]
  | .xor_C => [0xA9]
  | .xor_D => [0xAA]
  | .xor_E => [0xAB]
  | .xor_H => [0xAC]
  | .xor_L => [0xAD]
  | .xor_atHL => [0xAE]
  | .xor_A => [0xAF]
  | .or_B => [0xB0]
  | .or_C => [0xB1]
  | .or_D => [0xB2]
  | .or_E => [0xB3]
  | .or_H => [0xB4]
  | .or_L => [0xB5]
  | .or_atHL => [0xB6]
  | .or_A => [0xB7]
  | .cp_B => [0xB8]
  | .cp_C => [0xB9]
  | .cp_D => [0xBA]
  | .cp_E => [0xBB]
  | .cp_H => [0xBC]
  | .cp_L => [0xBD]
  | .cp_atHL => [0xBE]
  | .cp_A => [0xBF]
  | .ret_NZ => [0xC0]
  | .pop_BC => [0xC1]
  | .jp_NZ_nn nn => [0xC2, lo nn, hi nn]
  | .jp_nn nn => [0xC3, lo nn, hi nn]
  | .call_NZ_nn nn => [0xC4, lo nn, hi nn]
  | .push_BC => [0xC5]
  | .add_A_n n => [0xC6, n]
  | .rst_00H => [0xC7]
  | .ret_Z => [0xC8]
  | .ret => [0xC9]
  | .jp_Z_nn nn => [0xCA, lo nn, hi nn]
  | .call_Z_nn nn => [0xCC, lo nn, hi nn]
  | .call_nn nn => [0xCD, lo nn, hi nn]
  | .adc_A_n n => [0xCE, n]
  | .rst_08H => [0xCF]
  | .ret_NC => [0xD0]
  | .pop_DE => [0xD1]
  | .jp_NC_nn nn => [0xD2, lo nn, hi nn]
  | .out_atn_A n => [0xD3, n]
  | .call_NC_nn nn => [0xD4, lo nn, hi nn]
  | .push_DE => [0xD5]
  | .sub_n n => [0xD6, n]
  | .rst_10H => [0xD7]
  | .ret_C => [0xD8]
  | .exx => [0xD9]
  | .jp_C_nn nn => [0xDA, lo nn, hi nn]
  | .in_A_atn n => [0xDB, n]
  | .call_C_nn nn => [0xDC, lo nn, hi nn]
  | .sbc_A_n n => [0xDE, n]
  | .rst_18H => [0xDF]
  | .ret_PO => [0xE0]
  | .pop_HL => [0xE1]
  | .jp_PO_nn nn => [0xE2, lo nn, hi nn]
  | .ex_atSP_HL => [0xE3]
  | .call_PO_nn nn => [0xE4, lo nn, hi nn]
  | .push_HL => [0xE5]
  | .and_n n => [0xE6, n]
  | .rst_20H => [0xE7]
  | .ret_PE => [0xE8]
  | .jp_atHL => [0xE9]
  | .jp_PE_nn nn => [0xEA, lo nn, hi nn]
  | .ex_DE_HL => [0xEB]
  | .call_PE_nn nn => [0xEC, lo nn, hi nn]
  | .xor_n n => [0xEE, n]
  | .rst_28H => [0xEF]
  | .ret_P => [0xF0]
  | .pop_AF => [0xF1]
  | .jp_P_nn nn => [0xF2, lo nn, hi nn]
  | .di => [0xF3]
  | .call_P_nn nn => [0xF4, lo nn, hi nn]
  | .push_AF => [0xF5]
  | .or_n n => [0xF6, n]
  | .rst_30H => [0xF7]
  | .ret_M => [0xF8]
  | .ld_SP_HL => [0xF9]
  | .jp_M_nn nn => [0xFA, lo nn, hi nn]
  | .ei => [0xFB]
  | .call_M_nn nn => [0xFC, lo nn, hi nn]
  | .cp_n n => [0xFE, n]
  | .rst_38H => [0xFF]
  | .rlc_B => [0xCB, 0x00]
  | .rlc_C => [0xCB, 0x01]
  | .rlc_D => [0xCB, 0x02]
  | .rlc_E => [0xCB, 0x03]
  | .rlc_H => [0xCB, 0x04]
  | .rlc_L => [0xCB, 0x05]
  | .rlc_atHL => [0xCB, 0x06]
  | .rlc_A => [0xCB, 0x07]
  | .rrc_B => [0xCB, 0x08]
  | .rrc_C => [0xCB, 0x09]
  | .rrc_D => [0xCB, 0x0A]
  | .rrc_E => [0xCB, 0x0B]
  | .rrc_H => [0xCB, 0x0C]
  | .rrc_L => [0xCB, 0x0D]
  | .rrc_atHL => [0xCB, 0x0E]
  | .rrc_A => [0xCB, 0x0F]
  | .rl_B => [0xCB, 0x10]
  | .rl_C => [0xCB, 0x11]
  | .rl_D => [0xCB, 0x12]
  | .rl_E => [0xCB, 0x13]
  | .rl_H => [0xCB, 0x14]
  | .rl_L => [0xCB, 0x15]
  | .rl_atHL => [0xCB, 0x16]
  | .rl_A => [0xCB, 0x17]
  | .rr_B => [0xCB, 0x18]
  | .rr_C => [0xCB, 0x19]
  | .rr_D => [0xCB, 0x1A]
  | .rr_E => [0xCB, 0x1B]
  | .rr_H => [0xCB, 0x1C]
  | .rr_L => [0xCB, 0x1D]
  | .rr_atHL => [0xCB, 0x1E]
  | .rr_A => [0xCB, 0x1F]
  | .sla_B => [0xCB, 0x20]
  | .sla_C => [0xCB, 0x21]
  | .sla_D => [0xCB, 0x22]
  | .sla_E => [0xCB, 0x23]
  | .sla_H => [0xCB, 0x24]
  | .sla_L => [0xCB, 0x25]
  | .sla_atHL => [0xCB, 0x26]
  | .sla_A => [0xCB, 0x27]
  | .sra_B => [0xCB, 0x28]
  | .sra_C => [0xCB, 0x29]
  | .sra_D => [0xCB, 0x2A]
  | .sra_E => [0xCB, 0x2B]
  | .sra_H => [0xCB, 0x2C]
  | .sra_L => [0xCB, 0x2D]
  | .sra_atHL => [0xCB, 0x2E]
  | .sra_A => [0xCB, 0x2F]
  | .sll_B => [0xCB, 0x30]
  | .sll_C => [0xCB, 0x31]
  | .sll_D => [0xCB, 0x32]
  | .sll_E => [0xCB, 0x33]
  | .sll_H => [0xCB, 0x34]
  | .sll_L => [0xCB, 0x35]
  | .sll_atHL => [0xCB, 0x36]
  | .sll_A => [0xCB, 0x37]
  | .srl_B => [0xCB, 0x38]
  | .srl_C => [0xCB, 0x39]
  | .srl_D => [0xCB, 0x3A]
  | .srl_E => [0xCB, 0x3B]
  | .srl_H => [0xCB, 0x3C]
  | .srl_L => [0xCB, 0x3D]
  | .srl_atHL => [0xCB, 0x3E]
  | .srl_A => [0xCB, 0x3F]
  | .bit_0_B => [0xCB, 0x40]
  | .bit_0_C => [0xCB, 0x41]
  | .bit_0_D => [0xCB, 0x42]
  | .bit_0_E => [0xCB, 0x43]
  | .bit_0_H => [0xCB, 0x44]
  | .bit_0_L => [0xCB, 0x45]
  | .bit_0_atHL => [0xCB, 0x46]
  | .bit_0_A => [0xCB, 0x47]
  | .bit_1_B => [0xCB, 0x48]
  | .bit_1_C => [0xCB, 0x49]
  | .bit_1_D => [0xCB, 0x4A]
  | .bit_1_E => [0xCB, 0x4B]
  | .bit_1_H => [0xCB, 0x4C]
  | .bit_1_L => [0xCB, 0x4D]
  | .bit_1_atHL => [0xCB, 0x4E]
  | .bit_1_A => [0xCB, 0x4F]
  | .bit_2_B => [0xCB, 0x50]
  | .bit_2_C => [0xCB, 0x51]
  | .bit_2_D => [0xCB, 0x52]
  | .bit_2_E => [0xCB, 0x53]
  | .bit_2_H => [0xCB, 0x54]
  | .bit_2_L => [0xCB, 0x55]
  | .bit_2_atHL => [0xCB, 0x56]
  | .bit_2_A => [0xCB, 0x57]
  | .bit_3_B => [0xCB, 0x58]
  | .bit_3_C => [0xCB, 0x59]
  | .bit_3_D => [0xCB, 0x5A]
  | .bit_3_E => [0xCB, 0x5B]
  | .bit_3_H => [0xCB, 0x5C]
  | .bit_3_L => [0xCB, 0x5D]
  | .bit_3_atHL => [0xCB, 0x5E]
  | .bit_3_A => [0xCB, 0x5F]
  | .bit_4_B => [0xCB, 0x60]
  | .bit_4_C => [0xCB, 0x61]
  | .bit_4_D => [0xCB, 0x62]
  | .bit_4_E => [0xCB, 0x63]
  | .bit_4_H => [0xCB, 0x64]
  | .bit_4_L => [0xCB, 0x65]
  | .bit_4_atHL => [0xCB, 0x66]
  | .bit_4_A => [0xCB, 0x67]
  | .bit_5_B => [0xCB, 0x68]
  | .bit_5_C => [0xCB, 0x69]
  | .bit_5_D => [0xCB, 0x6A]
  | .bit_5_E => [0xCB, 0x6B]
  | .bit_5_H => [0xCB, 0x6C]
  | .bit_5_L => [0xCB, 0x6D]
  | .bit_5_atHL => [0xCB, 0x6E]
  | .bit_5_A => [0xCB, 0x6F]
  | .bit_6_B => [0xCB, 0x70]
  | .bit_6_C => [0xCB, 0x71]
  | .bit_6_D => [0xCB, 0x72]
  | .bit_6_E => [0xCB, 0x73]
  | .bit_6_H => [0xCB, 0x74]
  | .bit_6_L => [0xCB, 0x75]
  | .bit_6_atHL => [0xCB, 0x76]
  | .bit_6_A => [0xCB, 0x77]
  | .bit_7_B => [0xCB, 0x78]
  | .bit_7_C => [0xCB, 0x79]
  | .bit_7_D => [0xCB, 0x7A]
  | .bit_7_E => [0xCB, 0x7B]
  | .bit_7_H => [0xCB, 0x7C]
  | .bit_7_L => [0xCB, 0x7D]
  | .bit_7_atHL => [0xCB, 0x7E]
  | .bit_7_A => [0xCB, 0x7F]
  | .res_0_B => [0xCB, 0x80]
  | .res_0_C => [0xCB, 0x81]
  | .res_0_D => [0xCB, 0x82]
  | .res_0_E => [0xCB, 0x83]
  | .res_0_H => [0xCB, 0x84]
  | .res_0_L => [0xCB, 0x85]
  | .res_0_atHL => [0xCB, 0x86]
  | .res_0_A => [0xCB, 0x87]
  | .res_1_B => [0xCB, 0x88]
  | .res_1_C => [0xCB, 0x89]
  | .res_1_D => [0xCB, 0x8A]
  | .res_1_E => [0xCB, 0x8B]
  | .res_1_H => [0xCB, 0x8C]
  | .res_1_L => [0xCB, 0x8D]
  | .res_1_atHL => [0xCB, 0x8E]
  | .res_1_A => [0xCB, 0x8F]
  | .res_2_B => [0xCB, 0x90]
  | .res_2_C => [0xCB, 0x91]
  | .res_2_D => [0xCB, 0x92]
  | .res_2_E => [0xCB, 0x93]
  | .res_2_H => [0xCB, 0x94]
  | .res_2_L => [0xCB, 0x95]
  | .res_2_atHL => [0xCB, 0x96]
  | .res_2_A => [0xCB, 0x97]
  | .res_3_B => [0xCB, 0x98]
  | .res_3_C => [0xCB, 0x99]
  | .res_3_D => [0xCB, 0x9A]
  | .res_3_E => [0xCB, 0x9B]
  | .res_3_H => [0xCB, 0x9C]
  | .res_3_L => [0xCB, 0x9D]
  | .res_3_atHL => [0xCB, 0x9E]
  | .res_3_A => [0xCB, 0x9F]
  | .res_4_B => [0xCB, 0xA0]
  | .res_4_C => [0xCB, 0xA1]
  | .res_4_D => [0xCB, 0xA2]
  | .res_4_E => [0xCB, 0xA3]
  | .res_4_H => [0xCB, 0xA4]
  | .res_4_L => [0xCB, 0xA5]
  | .res_4_atHL => [0xCB, 0xA6]
  | .res_4_A => [0xCB, 0xA7]
  | .res_5_B => [0xCB, 0xA8]
  | .res_5_C => [0xCB, 0xA9]
  | .res_5_D => [0xCB, 0xAA]
  | .res_5_E => [0xCB, 0xAB]
  | .res_5_H => [0xCB, 0xAC]
  | .res_5_L => [0xCB, 0xAD]
  | .res_5_atHL => [0xCB, 0xAE]
  | .res_5_A => [0xCB, 0xAF]
  | .res_6_B => [0xCB, 0xB0]
  | .res_6_C => [0xCB, 0xB1]
  | .res_6_D => [0xCB, 0xB2]
  | .res_6_E => [0xCB, 0xB3]
  | .res_6_H => [0xCB, 0xB4]
  | .res_6_L => [0xCB, 0xB5]
  | .res_6_atHL => [0xCB, 0xB6]
  | .res_6_A => [0xCB, 0xB7]
  | .res_7_B => [0xCB, 0xB8]
  | .res_7_C => [0xCB, 0xB9]
  | .res_7_D => [0xCB, 0xBA]
  | .res_7_E => [0xCB, 0xBB]
  | .res_7_H => [0xCB, 0xBC]
  | .res_7_L => [0xCB, 0xBD]
  | .res_7_atHL => [0xCB, 0xBE]
  | .res_7_A => [0xCB, 0xBF]
  | .set_0_B => [0xCB, 0xC0]
  | .set_0_C => [0xCB, 0xC1]
  | .set_0_D => [0xCB, 0xC2]
  | .set_0_E => [0xCB, 0xC3]
  | .set_0_H => [0xCB, 0xC4]
  | .set_0_L => [0xCB, 0xC5]
  | .set_0_atHL => [0xCB, 0xC6]
  | .set_0_A => [0xCB, 0xC7]
  | .set_1_B => [0xCB, 0xC8]
  | .set_1_C => [0xCB, 0xC9]
  | .set_1_D => [0xCB, 0xCA]
  | .set_1_E => [0xCB, 0xCB]
  | .set_1_H => [0xCB, 0xCC]
  | .set_1_L => [0xCB, 0xCD]
  | .set_1_atHL => [0xCB, 0xCE]
  | .set_1_A => [0xCB, 0xCF]
  | .set_2_B => [0xCB, 0xD0]
  | .set_2_C => [0xCB, 0xD1]
  | .set_2_D => [0xCB, 0xD2]
  | .set_2_E => [0xCB, 0xD3]
  | .set_2_H => [0xCB, 0xD4]
  | .set_2_L => [0xCB, 0xD5]
  | .set_2_atHL => [0xCB, 0xD6]
  | .set_2_A => [0xCB, 0xD7]
  | .set_3_B => [0xCB, 0xD8]
  | .set_3_C => [0xCB, 0xD9]
  | .set_3_D => [0xCB, 0xDA]
  | .set_3_E => [0xCB, 0xDB]
  | .set_3_H => [0xCB, 0xDC]
  | .set_3_L => [0xCB, 0xDD]
  | .set_3_atHL => [0xCB, 0xDE]
  | .set_3_A => [0xCB, 0xDF]
  | .set_4_B => [0xCB, 0xE0]
  | .set_4_C => [0xCB, 0xE1]
  | .set_4_D => [0xCB, 0xE2]
  | .set_4_E => [0xCB, 0xE3]
  | .set_4_H => [0xCB, 0xE4]
  | .set_4_L => [0xCB, 0xE5]
  | .set_4_atHL => [0xCB, 0xE6]
  | .set_4_A => [0xCB, 0xE7]
  | .set_5_B => [0xCB, 0xE8]
  | .set_5_C => [0xCB, 0xE9]
  | .set_5_D => [0xCB, 0xEA]
  | .set_5_E => [0xCB, 0xEB]
  | .set_5_H => [0xCB, 0xEC]
  | .set_5_L => [0xCB, 0xED]
  | .set_5_atHL => [0xCB, 0xEE]
  | .set_5_A => [0xCB, 0xEF]
  | .set_6_B => [0xCB, 0xF0]
  | .set_6_C => [0xCB, 0xF1]
  | .set_6_D => [0xCB, 0xF2]
  | .set_6_E => [0xCB, 0xF3]
  | .set_6_H => [0xCB, 0xF4]
  | .set_6_L => [0xCB, 0xF5]
  | .set_6_atHL => [0xCB, 0xF6]
  | .set_6_A => [0xCB, 0xF7]
  | .set_7_B => [0xCB, 0xF8]
  | .set_7_C => [0xCB, 0xF9]
  | .set_7_D => [0xCB, 0xFA]
  | .set_7_E => [0xCB, 0xFB]
  | .set_7_H => [0xCB, 0xFC]
  | .set_7_L => [0xCB, 0xFD]
  | .set_7_atHL => [0xCB, 0xFE]
  | .set_7_A => [0xCB, 0xFF]
  | .in_B_atC => [0xED, 0x40]
  | .out_atC_B => [0xED, 0x41]
  | .sbc_HL_BC => [0xED, 0x42]
  | .ld_atnn_BC nn => [0xED, 0x43, lo nn, hi nn]
  | .neg => [0xED, 0x44]
  | .retn => [0xED, 0x45]
  | .im_0 => [0xED, 0x46]
  | .ld_I_A => [0xED, 0x47]
  | .in_C_atC => [0xED, 0x48]
  | .out_atC_C => [0xED, 0x49]
  | .adc_HL_BC => [0xED, 0x4A]
  | .ld_BC_atnn nn => [0xED, 0x4B, lo nn, hi nn]
  | .reti => [0xED, 0x4D]
  | .ld_R_A => [0xED, 0x4F]
  | .in_D_atC => [0xED, 0x50]
  | .out_atC_D => [0xED, 0x51]
  | .sbc_HL_DE => [0xED, 0x52]
  | .ld_atnn_DE nn => [0xED, 0x53, lo nn, hi nn]
  | .im_1 => [0xED, 0x56]
  | .ld_A_I => [0xED, 0x57]
  | .in_E_atC => [0xED, 0x58]
  | .out_atC_E => [0xED, 0x59]
  | .adc_HL_DE => [0xED, 0x5A]
  | .ld_DE_atnn nn => [0xED, 0x5B, lo nn, hi nn]
  | .im_2 => [0xED, 0x5E]
  | .ld_A_R => [0xED, 0x5F]
  | .in_H_atC => [0xED, 0x60]
  | .out_atC_H => [0xED, 0x61]
  | .sbc_HL_HL => [0xED, 0x62]
  | .ld_atnn_HL_ED nn => [0xED, 0x63, lo nn, hi nn]
  | .rrd => [0xED, 0x67]
  | .in_L_atC => [0xED, 0x68]
  | .out_atC_L => [0xED, 0x69]
  | .adc_HL_HL => [0xED, 0x6A]
  | .ld_HL_atnn_ED nn => [0xED, 0x6B, lo nn, hi nn]
  | .rld => [0xED, 0x6F]
  | .sbc_HL_SP => [0xED, 0x72]
  | .ld_atnn_SP nn => [0xED, 0x73, lo nn, hi nn]
  | .in_A_atC => [0xED, 0x78]
  | .out_atC_A => [0xED, 0x79]
  | .adc_HL_SP => [0xED, 0x7A]
  | .ld_SP_atnn nn => [0xED, 0x7B, lo nn, hi nn]
  | .ldi => [0xED, 0xA0]
  | .cpi => [0xED, 0xA1]
  | .ini => [0xED, 0xA2]
  | .outi => [0xED, 0xA3]
  | .ldd => [0xED, 0xA8]
  | .cpd => [0xED, 0xA9]
  | .ind => [0xED, 0xAA]
  | .outd => [0xED, 0xAB]
  | .ldir => [0xED, 0xB0]
  | .cpir => [0xED, 0xB1]
  | .inir => [0xED, 0xB2]
  | .otir => [0xED, 0xB3]
  | .lddr => [0xED, 0xB8]
  | .cpdr => [0xED, 0xB9]
  | .indr => [0xED, 0xBA]
  | .otdr => [0xED, 0xBB]
  | .add_IX_BC => [0xDD, 0x09]
  | .add_IX_DE => [0xDD, 0x19]
  | .ld_IX_nn nn => [0xDD, 0x21, lo nn, hi nn]
  | .ld_atnn_IX nn => [0xDD, 0x22, lo nn, hi nn]
  | .inc_IX => [0xDD, 0x23]
  | .inc_IXH => [0xDD, 0x24]
  | .dec_IXH => [0xDD, 0x25]
  | .ld_IXH_n n => [0xDD, 0x26, n]
  | .add_IX_IX => [0xDD, 0x29]
  | .ld_IX_atnn nn => [0xDD, 0x2A, lo nn, hi nn]
  | .dec_IX => [0xDD, 0x2B]
  | .inc_IXL => [0xDD, 0x2C]
  | .dec_IXL => [0xDD, 0x2D]
  | .ld_IXL_n n => [0xDD, 0x2E, n]
  | .inc_atIXd d => [0xDD, 0x34, d]
  | .dec_atIXd d => [0xDD, 0x35, d]
  | .ld_atIXd_n d n => [0xDD, 0x36, d, n]
  | .add_IX_SP => [0xDD, 0x39]
  | .ld_B_IXH => [0xDD, 0x44]
  | .ld_B_IXL => [0xDD, 0x45]
  | .ld_B_atIXd d => [0xDD, 0x46, d]
  | .ld_C_IXH => [0xDD, 0x4C]
  | .ld_C_IXL => [0xDD, 0x4D]
  | .ld_C_atIXd d => [0xDD, 0x4E, d]
  | .ld_D_IXH => [0xDD, 0x54]
  | .ld_D_IXL => [0xDD, 0x55]
  | .ld_D_atIXd d => [0xDD, 0x56, d]
  | .ld_E_IXH => [0xDD, 0x5C]
  | .ld_E_IXL => [0xDD, 0x5D]
  | .ld_E_atIXd d => [0xDD, 0x5E, d]
  | .ld_IXH_B => [0xDD, 0x60]
  | .ld_IXH_C => [0xDD, 0x61]
  | .ld_IXH_D => [0xDD, 0x62]
  | .ld_IXH_E => [0xDD, 0x63]
  | .ld_IXH_IXH => [0xDD, 0x64]
  | .ld_IXH_IXL => [0xDD, 0x65]
  | .ld_H_atIXd d => [0xDD, 0x66, d]
  | .ld_IXH_A => [0xDD, 0x67]
  | .ld_IXL_B => [0xDD, 0x68]
  | .ld_IXL_C => [0xDD, 0x69]
  | .ld_IXL_D => [0xDD, 0x6A]
  | .ld_IXL_E => [0xDD, 0x6B]
  | .ld_IXL_IXH => [0xDD, 0x6C]
  | .ld_IXL_IXL => [0xDD, 0x6D]
  | .ld_L_atIXd d => [0xDD, 0x6E, d]
  | .ld_IXL_A => [0xDD, 0x6F]
  | .ld_atIXd_B d => [0xDD, 0x70, d]
  | .ld_atIXd_C d => [0xDD, 0x71, d]
  | .ld_atIXd_D d => [0xDD, 0x72, d]
  | .ld_atIXd_E d => [0xDD, 0x73, d]
  | .ld_atIXd_H d => [0xDD, 0x74, d]
  | .ld_atIXd_L d => [0xDD, 0x75, d]
  | .ld_atIXd_A d => [0xDD, 0x77, d]
  | .ld_A_IXH => [0xDD, 0x7C]
  | .ld_A_IXL => [0xDD, 0x7D]
  | .ld_A_atIXd d => [0xDD, 0x7E, d]
  | .add_A_IXH => [0xDD, 0x84]
  | .add_A_IXL => [0xDD, 0x85]
  | .add_A_atIXd d => [0xDD, 0x86, d]
  | .adc_A_IXH => [0xDD, 0x8C]
  | .adc_A_IXL => [0xDD, 0x8D]
  | .adc_A_atIXd d => [0xDD, 0x8E, d]
  | .sub_IXH => [0xDD, 0x94]
  | .sub_IXL => [0xDD, 0x95]
  | .sub_atIXd d => [0xDD, 0x96, d]
  | .sbc_A_IXH => [0xDD, 0x9C]
  | .sbc_A_IXL => [0xDD, 0x9D]
  | .sbc_A_atIXd d => [0xDD, 0x9E, d]
  | .and_IXH => [0xDD, 0xA4]
  | .and_IXL => [0xDD, 0xA5]
  | .and_atIXd d => [0xDD, 0xA6, d]
  | .xor_IXH => [0xDD, 0xAC]
  | .xor_IXL => [0xDD, 0xAD]
  | .xor_atIXd d => [0xDD, 0xAE, d]
  | .or_IXH => [0xDD, 0xB4]
  | .or_IXL => [0xDD, 0xB5]
  | .or_atIXd d => [0xDD, 0xB6, d]
  | .cp_IXH => [0xDD, 0xBC]
  | .cp_IXL => [0xDD, 0xBD]
  | .cp_atIXd d => [0xDD, 0xBE, d]
  | .rlc_atIXd_to_B d => [0xDD, 0xCB, d, 0x00]
  | .rlc_atIXd_to_C d => [0xDD, 0xCB, d, 0x01]
  | .rlc_atIXd_to_D d => [0xDD, 0xCB, d, 0x02]
  | .rlc_atIXd_to_E d => [0xDD, 0xCB, d, 0x03]
  | .rlc_atIXd_to_H d => [0xDD, 0xCB, d, 0x04]
  | .rlc_atIXd_to_L d => [0xDD, 0xCB, d, 0x05]
  | .rlc_atIXd d => [0xDD, 0xCB, d, 0x06]
  | .rlc_atIXd_to_A d => [0xDD, 0xCB, d, 0x07]
  | .rrc_atIXd_to_B d => [0xDD, 0xCB, d, 0x08]
  | .rrc_atIXd_to_C d => [0xDD, 0xCB, d, 0x09]
  | .rrc_atIXd_to_D d => [0xDD, 0xCB, d, 0x0A]
  | .rrc_atIXd_to_E d => [0xDD, 0xCB, d, 0x0B]
  | .rrc_atIXd_to_H d => [0xDD, 0xCB, d, 0x0C]
  | .rrc_atIXd_to_L d => [0xDD, 0xCB, d, 0x0D]
  | .rrc_atIXd d => [0xDD, 0xCB, d, 0x0E]
  | .rrc_atIXd_to_A d => [0xDD, 0xCB, d, 0x0F]
  | .rl_atIXd_to_B d => [0xDD, 0xCB, d, 0x10]
  | .rl_atIXd_to_C d => [0xDD, 0xCB, d, 0x11]
  | .rl_atIXd_to_D d => [0xDD, 0xCB, d, 0x12]
  | .rl_atIXd_to_E d => [0xDD, 0xCB, d, 0x13]
  | .rl_atIXd_to_H d => [0xDD, 0xCB, d, 0x14]
  | .rl_atIXd_to_L d => [0xDD, 0xCB, d, 0x15]
  | .rl_atIXd d => [0xDD, 0xCB, d, 0x16]
  | .rl_atIXd_to_A d => [0xDD, 0xCB, d, 0x17]
  | .rr_atIXd_to_B d => [0xDD, 0xCB, d, 0x18]
  | .rr_atIXd_to_C d => [0xDD, 0xCB, d, 0x19]
  | .rr_atIXd_to_D d => [0xDD, 0xCB, d, 0x1A]
  | .rr_atIXd_to_E d => [0xDD, 0xCB, d, 0x1B]
  | .rr_atIXd_to_H d => [0xDD, 0xCB, d, 0x1C]
  | .rr_atIXd_to_L d => [0xDD, 0xCB, d, 0x1D]
  | .rr_atIXd d => [0xDD, 0xCB, d, 0x1E]
  | .rr_atIXd_to_A d => [0xDD, 0xCB, d, 0x1F]
  | .sla_atIXd_to_B d => [0xDD, 0xCB, d, 0x20]
  | .sla_atIXd_to_C d => [0xDD, 0xCB, d, 0x21]
  | .sla_atIXd_to_D d => [0xDD, 0xCB, d, 0x22]
  | .sla_atIXd_to_E d => [0xDD, 0xCB, d, 0x23]
  | .sla_atIXd_to_H d => [0xDD, 0xCB, d, 0x24]
  | .sla_atIXd_to_L d => [0xDD, 0xCB, d, 0x25]
  | .sla_atIXd d => [0xDD, 0xCB, d, 0x26]
  | .sla_atIXd_to_A d => [0xDD, 0xCB, d, 0x27]
  | .sra_atIXd_to_B d => [0xDD, 0xCB, d, 0x28]
  | .sra_atIXd_to_C d => [0xDD, 0xCB, d, 0x29]
  | .sra_atIXd_to_D d => [0xDD, 0xCB, d, 0x2A]
  | .sra_atIXd_to_E d => [0xDD, 0xCB, d, 0x2B]
  | .sra_atIXd_to_H d => [0xDD, 0xCB, d, 0x2C]
  | .sra_atIXd_to_L d => [0xDD, 0xCB, d, 0x2D]
  | .sra_atIXd d => [0xDD, 0xCB, d, 0x2E]
  | .sra_atIXd_to_A d => [0xDD, 0xCB, d, 0x2F]
  | .sll_atIXd_to_B d => [0xDD, 0xCB, d, 0x30]
  | .sll_atIXd_to_C d => [0xDD, 0xCB, d, 0x31]
  | .sll_atIXd_to_D d => [0xDD, 0xCB, d, 0x32]
  | .sll_atIXd_to_E d => [0xDD, 0xCB, d, 0x33]
  | .sll_atIXd_to_H d => [0xDD, 0xCB, d, 0x34]
  | .sll_atIXd_to_L d => [0xDD, 0xCB, d, 0x35]
  | .sll_atIXd d => [0xDD, 0xCB, d, 0x36]
  | .sll_atIXd_to_A d => [0xDD, 0xCB, d, 0x37]
  | .srl_atIXd_to_B d => [0xDD, 0xCB, d, 0x38]
  | .srl_atIXd_to_C d => [0xDD, 0xCB, d, 0x39]
  | .srl_atIXd_to_D d => [0xDD, 0xCB, d, 0x3A]
  | .srl_atIXd_to_E d => [0xDD, 0xCB, d, 0x3B]
  | .srl_atIXd_to_H d => [0xDD, 0xCB, d, 0x3C]
  | .srl_atIXd_to_L d => [0xDD, 0xCB, d, 0x3D]
  | .srl_atIXd d => [0xDD, 0xCB, d, 0x3E]
  | .srl_atIXd_to_A d => [0xDD, 0xCB, d, 0x3F]
  | .bit_0_atIXd d z => [0xDD, 0xCB, d, bitIdxSub 0 z]
  | .bit_1_atIXd d z => [0xDD, 0xCB, d, bitIdxSub 1 z]
  | .bit_2_atIXd d z => [0xDD, 0xCB, d, bitIdxSub 2 z]
  | .bit_3_atIXd d z => [0xDD, 0xCB, d, bitIdxSub 3 z]
  | .bit_4_atIXd d z => [0xDD, 0xCB, d, bitIdxSub 4 z]
  | .bit_5_atIXd d z => [0xDD, 0xCB, d, bitIdxSub 5 z]
  | .bit_6_atIXd d z => [0xDD, 0xCB, d, bitIdxSub 6 z]
  | .bit_7_atIXd d z => [0xDD, 0xCB, d, bitIdxSub 7 z]
  | .res_0_atIXd_to_B d => [0xDD, 0xCB, d, 0x80]
  | .res_0_atIXd_to_C d => [0xDD, 0xCB, d, 0x81]
  | .res_0_atIXd_to_D d => [0xDD, 0xCB, d, 0x82]
  | .res_0_atIXd_to_E d => [0xDD, 0xCB, d, 0x83]
  | .res_0_atIXd_to_H d => [0xDD, 0xCB, d, 0x84]
  | .res_0_atIXd_to_L d => [0xDD, 0xCB, d, 0x85]
  | .res_0_atIXd d => [0xDD, 0xCB, d, 0x86]
  | .res_0_atIXd_to_A d => [0xDD, 0xCB, d, 0x87]
  | .res_1_atIXd_to_B d => [0xDD, 0xCB, d, 0x88]
  | .res_1_atIXd_to_C d => [0xDD, 0xCB, d, 0x89]
  | .res_1_atIXd_to_D d => [0xDD, 0xCB, d, 0x8A]
  | .res_1_atIXd_to_E d => [0xDD, 0xCB, d, 0x8B]
  | .res_1_atIXd_to_H d => [0xDD, 0xCB, d, 0x8C]
  | .res_1_atIXd_to_L d => [0xDD, 0xCB, d, 0x8D]
  | .res_1_atIXd d => [0xDD, 0xCB, d, 0x8E]
  | .res_1_atIXd_to_A d => [0xDD, 0xCB, d, 0x8F]
  | .res_2_atIXd_to_B d => [0xDD, 0xCB, d, 0x90]
  | .res_2_atIXd_to_C d => [0xDD, 0xCB, d, 0x91]
  | .res_2_atIXd_to_D d => [0xDD, 0xCB, d, 0x92]
  | .res_2_atIXd_to_E d => [0xDD, 0xCB, d, 0x93]
  | .res_2_atIXd_to_H d => [0xDD, 0xCB, d, 0x94]
  | .res_2_atIXd_to_L d => [0xDD, 0xCB, d, 0x95]
  | .res_2_atIXd d => [0xDD, 0xCB, d, 0x96]
  | .res_2_atIXd_to_A d => [0xDD, 0xCB, d, 0x97]
  | .res_3_atIXd_to_B d => [0xDD, 0xCB, d, 0x98]
  | .res_3_atIXd_to_C d => [0xDD, 0xCB, d, 0x99]
  | .res_3_atIXd_to_D d => [0xDD, 0xCB, d, 0x9A]
  | .res_3_atIXd_to_E d => [0xDD, 0xCB, d, 0x9B]
  | .res_3_atIXd_to_H d => [0xDD, 0xCB, d, 0x9C]
  | .res_3_atIXd_to_L d => [0xDD, 0xCB, d, 0x9D]
  | .res_3_atIXd d => [0xDD, 0xCB, d, 0x9E]
  | .res_3_atIXd_to_A d => [0xDD, 0xCB, d, 0x9F]
  | .res_4_atIXd_to_B d => [0xDD, 0xCB, d, 0xA0]
  | .res_4_atIXd_to_C d => [0xDD, 0xCB, d, 0xA1]
  | .res_4_atIXd_to_D d => [0xDD, 0xCB, d, 0xA2]
  | .res_4_atIXd_to_E d => [0xDD, 0xCB, d, 0xA3]
  | .res_4_atIXd_to_H d => [0xDD, 0xCB, d, 0xA4]
  | .res_4_atIXd_to_L d => [0xDD, 0xCB, d, 0xA5]
  | .res_4_atIXd d => [0xDD, 0xCB, d, 0xA6]
  | .res_4_atIXd_to_A d => [0xDD, 0xCB, d, 0xA7]
  | .res_5_atIXd_to_B d => [0xDD, 0xCB, d, 0xA8]
  | .res_5_atIXd_to_C d => [0xDD, 0xCB, d, 0xA9]
  | .res_5_atIXd_to_D d => [0xDD, 0xCB, d, 0xAA]
  | .res_5_atIXd_to_E d => [0xDD, 0xCB, d, 0xAB]
  | .res_5_atIXd_to_H d => [0xDD, 0xCB, d, 0xAC]
  | .res_5_atIXd_to_L d => [0xDD, 0xCB, d, 0xAD]
  | .res_5_atIXd d => [0xDD, 0xCB, d, 0xAE]
  | .res_5_atIXd_to_A d => [0xDD, 0xCB, d, 0xAF]
  | .res_6_atIXd_to_B d => [0xDD, 0xCB, d, 0xB0]
  | .res_6_atIXd_to_C d => [0xDD, 0xCB, d, 0xB1]
  | .res_6_atIXd_to_D d => [0xDD, 0xCB, d, 0xB2]
  | .res_6_atIXd_to_E d => [0xDD, 0xCB, d, 0xB3]
  | .res_6_atIXd_to_H d => [0xDD, 0xCB, d, 0xB4]
  | .res_6_atIXd_to_L d => [0xDD, 0xCB, d, 0xB5]
  | .res_6_atIXd d => [0xDD, 0xCB, d, 0xB6]
  | .res_6_atIXd_to_A d => [0xDD, 0xCB, d, 0xB7]
  | .res_7_atIXd_to_B d => [0xDD, 0xCB, d, 0xB8]
  | .res_7_atIXd_to_C d => [0xDD, 0xCB, d, 0xB9]
  | .res_7_atIXd_to_D d => [0xDD, 0xCB, d, 0xBA]
  | .res_7_atIXd_to_E d => [0xDD, 0xCB, d, 0xBB]
  | .res_7_atIXd_to_H d => [0xDD, 0xCB, d, 0xBC]
  | .res_7_atIXd_to_L d => [0xDD, 0xCB, d, 0xBD]
  | .res_7_atIXd d => [0xDD, 0xCB, d, 0xBE]
  | .res_7_atIXd_to_A d => [0xDD, 0xCB, d, 0xBF]
  | .set_0_atIXd_to_B d => [0xDD, 0xCB, d, 0xC0]
  | .set_0_atIXd_to_C d => [0xDD, 0xCB, d, 0xC1]
  | .set_0_atIXd_to_D d => [0xDD, 0xCB, d, 0xC2]
  | .set_0_atIXd_to_E d => [0xDD, 0xCB, d, 0xC3]
  | .set_0_atIXd_to_H d => [0xDD, 0xCB, d, 0xC4]
  | .set_0_atIXd_to_L d => [0xDD, 0xCB, d, 0xC5]
  | .set_0_atIXd d => [0xDD, 0xCB, d, 0xC6]
  | .set_0_atIXd_to_A d => [0xDD, 0xCB, d, 0xC7]
  | .set_1_atIXd_to_B d => [0xDD, 0xCB, d, 0xC8]
  | .set_1_atIXd_to_C d => [0xDD, 0xCB, d, 0xC9]
  | .set_1_atIXd_to_D d => [0xDD, 0xCB, d, 0xCA]
  | .set_1_atIXd_to_E d => [0xDD, 0xCB, d, 0xCB]
  | .set_1_atIXd_to_H d => [0xDD, 0xCB, d, 0xCC]
  | .set_1_atIXd_to_L d => [0xDD, 0xCB, d, 0xCD]
  | .set_1_atIXd d => [0xDD, 0xCB, d, 0xCE]
  | .set_1_atIXd_to_A d => [0xDD, 0xCB, d, 0xCF]
  | .set_2_atIXd_to_B d => [0xDD, 0xCB, d, 0xD0]
  | .set_2_atIXd_to_C d => [0xDD, 0xCB, d, 0xD1]
  | .set_2_atIXd_to_D d => [0xDD, 0xCB, d, 0xD2]
  | .set_2_atIXd_to_E d => [0xDD, 0xCB, d, 0xD3]
  | .set_2_atIXd_to_H d => [0xDD, 0xCB, d, 0xD4]
  | .set_2_atIXd_to_L d => [0xDD, 0xCB, d, 0xD5]
  | .set_2_atIXd d => [0xDD, 0xCB, d, 0xD6]
  | .set_2_atIXd_to_A d => [0xDD, 0xCB, d, 0xD7]
  | .set_3_atIXd_to_B d => [0xDD, 0xCB, d, 0xD8]
  | .set_3_atIXd_to_C d => [0xDD, 0xCB, d, 0xD9]
  | .set_3_atIXd_to_D d => [0xDD, 0xCB, d, 0xDA]
  | .set_3_atIXd_to_E d => [0xDD, 0xCB, d, 0xDB]
  | .set_3_atIXd_to_H d => [0xDD, 0xCB, d, 0xDC]
  | .set_3_atIXd_to_L d => [0xDD, 0xCB, d, 0xDD]
  | .set_3_atIXd d => [0xDD, 0xCB, d, 0xDE]
  | .set_3_atIXd_to_A d => [0xDD, 0xCB, d, 0xDF]
  | .set_4_atIXd_to_B d => [0xDD, 0xCB, d, 0xE0]
  | .set_4_atIXd_to_C d => [0xDD, 0xCB, d, 0xE1]
  | .set_4_atIXd_to_D d => [0xDD, 0xCB, d, 0xE2]
  | .set_4_atIXd_to_E d => [0xDD, 0xCB, d, 0xE3]
  | .set_4_atIXd_to_H d => [0xDD, 0xCB, d, 0xE4]
  | .set_4_atIXd_to_L d => [0xDD, 0xCB, d, 0xE5]
  | .set_4_atIXd d => [0xDD, 0xCB, d, 0xE6]
  | .set_4_atIXd_to_A d => [0xDD, 0xCB, d, 0xE7]
  | .set_5_atIXd_to_B d => [0xDD, 0xCB, d, 0xE8]
  | .set_5_atIXd_to_C d => [0xDD, 0xCB, d, 0xE9]
  | .set_5_atIXd_to_D d => [0xDD, 0xCB, d, 0xEA]
  | .set_5_atIXd_to_E d => [0xDD, 0xCB, d, 0xEB]
  | .set_5_atIXd_to_H d => [0xDD, 0xCB, d, 0xEC]
  | .set_5_atIXd_to_L d => [0xDD, 0xCB, d, 0xED]
  | .set_5_atIXd d => [0xDD, 0xCB, d, 0xEE]
  | .set_5_atIXd_to_A d => [0xDD, 0xCB, d, 0xEF]
  | .set_6_atIXd_to_B d => [0xDD, 0xCB, d, 0xF0]
  | .set_6_atIXd_to_C d => [0xDD, 0xCB, d, 0xF1]
  | .set_6_atIXd_to_D d => [0xDD, 0xCB, d, 0xF2]
  | .set_6_atIXd_to_E d => [0xDD, 0xCB, d, 0xF3]
  | .set_6_atIXd_to_H d => [0xDD, 0xCB, d, 0xF4]
  | .set_6_atIXd_to_L d => [0xDD, 0xCB, d, 0xF5]
  | .set_6_atIXd d => [0xDD, 0xCB, d, 0xF6]
  | .set_6_atIXd_to_A d => [0xDD, 0xCB, d, 0xF7]
  | .set_7_atIXd_to_B d => [0xDD, 0xCB, d, 0xF8]
  | .set_7_atIXd_to_C d => [0xDD, 0xCB, d, 0xF9]
  | .set_7_atIXd_to_D d => [0xDD, 0xCB, d, 0xFA]
  | .set_7_atIXd_to_E d => [0xDD, 0xCB, d, 0xFB]
  | .set_7_atIXd_to_H d => [0xDD, 0xCB, d, 0xFC]
  | .set_7_atIXd_to_L d => [0xDD, 0xCB, d, 0xFD]
  | .set_7_atIXd d => [0xDD, 0xCB, d, 0xFE]
  | .set_7_atIXd_to_A d => [0xDD, 0xCB, d, 0xFF]
  | .pop_IX => [0xDD, 0xE1]
  | .ex_atSP_IX => [0xDD, 0xE3]
  | .push_IX => [0xDD, 0xE5]
  | .jp_atIX => [0xDD, 0xE9]
  | .ld_SP_IX => [0xDD, 0xF9]
  | .add_IY_BC => [0xFD, 0x09]
  | .add_IY_DE => [0xFD, 0x19]
  | .ld_IY_nn nn => [0xFD, 0x21, lo nn, hi nn]
  | .ld_atnn_IY nn => [0xFD, 0x22, lo nn, hi nn]
  | .inc_IY => [0xFD, 0x23]
  | .inc_IYH => [0xFD, 0x24]
  | .dec_IYH => [0xFD, 0x25]
  | .ld_IYH_n n => [0xFD, 0x26, n]
  | .add_IY_IY => [0xFD, 0x29]
  | .ld_IY_atnn nn => [0xFD, 0x2A, lo nn, hi nn]
  | .dec_IY => [0xFD, 0x2B]
  | .inc_IYL => [0xFD, 0x2C]
  | .dec_IYL => [0xFD, 0x2D]
  | .ld_IYL_n n => [0xFD, 0x2E, n]
  | .inc_atIYd d => [0xFD, 0x34, d]
  | .dec_atIYd d => [0xFD, 0x35, d]
  | .ld_atIYd_n d n => [0xFD, 0x36, d, n]
  | .add_IY_SP => [0xFD, 0x39]
  | .ld_B_IYH => [0xFD, 0x44]
  | .ld_B_IYL => [0xFD, 0x45]
  | .ld_B_atIYd d => [0xFD, 0x46, d]
  | .ld_C_IYH => [0xFD, 0x4C]
  | .ld_C_IYL => [0xFD, 0x4D]
  | .ld_C_atIYd d => [0xFD, 0x4E, d]
  | .ld_D_IYH => [0xFD, 0x54]
  | .ld_D_IYL => [0xFD, 0x55]
  | .ld_D_atIYd d => [0xFD, 0x56, d]
  | .ld_E_IYH => [0xFD, 0x5C]
  | .ld_E_IYL => [0xFD, 0x5D]
  | .ld_E_atIYd d => [0xFD, 0x5E, d]
  | .ld_IYH_B => [0xFD, 0x60]
  | .ld_IYH_C => [0xFD, 0x61]
  | .ld_IYH_D => [0xFD, 0x62]
  | .ld_IYH_E => [0xFD, 0x63]
  | .ld_IYH_IYH => [0xFD, 0x64]
  | .ld_IYH_IYL => [0xFD, 0x65]
  | .ld_H_atIYd d => [0xFD, 0x66, d]
  | .ld_IYH_A => [0xFD, 0x67]
  | .ld_IYL_B => [0xFD, 0x68]
  | .ld_IYL_C => [0xFD, 0x69]
  | .ld_IYL_D => [0xFD, 0x6A]
  | .ld_IYL_E => [0xFD, 0x6B]
  | .ld_IYL_IYH => [0xFD, 0x6C]
  | .ld_IYL_IYL => [0xFD, 0x6D]
  | .ld_L_atIYd d => [0xFD, 0x6E, d]
  | .ld_IYL_A => [0xFD, 0x6F]
  | .ld_atIYd_B d => [0xFD, 0x70, d]
  | .ld_atIYd_C d => [0xFD, 0x71, d]
  | .ld_atIYd_D d => [0xFD, 0x72, d]
  | .ld_atIYd_E d => [0xFD, 0x73, d]
  | .ld_atIYd_H d => [0xFD, 0x74, d]
  | .ld_atIYd_L d => [0xFD, 0x75, d]
  | .ld_atIYd_A d => [0xFD, 0x77, d]
  | .ld_A_IYH => [0xFD, 0x7C]
  | .ld_A_IYL => [0xFD, 0x7D]
  | .ld_A_atIYd d => [0xFD, 0x7E, d]
  | .add_A_IYH => [0xFD, 0x84]
  | .add_A_IYL => [0xFD, 0x85]
  | .add_A_atIYd d => [0xFD, 0x86, d]
  | .adc_A_IYH => [0xFD, 0x8C]
  | .adc_A_IYL => [0xFD, 0x8D]
  | .adc_A_atIYd d => [0xFD, 0x8E, d]
  | .sub_IYH => [0xFD, 0x94]
  | .sub_IYL => [0xFD, 0x95]
  | .sub_atIYd d => [0xFD, 0x96, d]
  | .sbc_A_IYH => [0xFD, 0x9C]
  | .sbc_A_IYL => [0xFD, 0x9D]
  | .sbc_A_atIYd d => [0xFD, 0x9E, d]
  | .and_IYH => [0xFD, 0xA4]
  | .and_IYL => [0xFD, 0xA5]
  | .and_atIYd d => [0xFD, 0xA6, d]
  | .xor_IYH => [0xFD, 0xAC]
  | .xor_IYL => [0xFD, 0xAD]
  | .xor_atIYd d => [0xFD, 0xAE, d]
  | .or_IYH => [0xFD, 0xB4]
  | .or_IYL => [0xFD, 0xB5]
  | .or_atIYd d => [0xFD, 0xB6, d]
  | .cp_IYH => [0xFD, 0xBC]
  | .cp_IYL => [0xFD, 0xBD]
  | .cp_atIYd d => [0xFD, 0xBE, d]
  | .rlc_atIYd_to_B d => [0xFD, 0xCB, d, 0x00]
  | .rlc_atIYd_to_C d => [0xFD, 0xCB, d, 0x01]
  | .rlc_atIYd_to_D d => [0xFD, 0xCB, d, 0x02]
  | .rlc_atIYd_to_E d => [0xFD, 0xCB, d, 0x03]
  | .rlc_atIYd_to_H d => [0xFD, 0xCB, d, 0x04]
  | .rlc_atIYd_to_L d => [0xFD, 0xCB, d, 0x05]
  | .rlc_atIYd d => [0xFD, 0xCB, d, 0x06]
  | .rlc_atIYd_to_A d => [0xFD, 0xCB, d, 0x07]
  | .rrc_atIYd_to_B d => [0xFD, 0xCB, d, 0x08]
  | .rrc_atIYd_to_C d => [0xFD, 0xCB, d, 0x09]
  | .rrc_atIYd_to_D d => [0xFD, 0xCB, d, 0x0A]
  | .rrc_atIYd_to_E d => [0xFD, 0xCB, d, 0x0B]
  | .rrc_atIYd_to_H d => [0xFD, 0xCB, d, 0x0C]
  | .rrc_atIYd_to_L d => [0xFD, 0xCB, d, 0x0D]
  | .rrc_atIYd d => [0xFD, 0xCB, d, 0x0E]
  | .rrc_atIYd_to_A d => [0xFD, 0xCB, d, 0x0F]
  | .rl_atIYd_to_B d => [0xFD, 0xCB, d, 0x10]
  | .rl_atIYd_to_C d => [0xFD, 0xCB, d, 0x11]
  | .rl_atIYd_to_D d => [0xFD, 0xCB, d, 0x12]
  | .rl_atIYd_to_E d => [0xFD, 0xCB, d, 0x13]
  | .rl_atIYd_to_H d => [0xFD, 0xCB, d, 0x14]
  | .rl_atIYd_to_L d => [0xFD, 0xCB, d, 0x15]
  | .rl_atIYd d => [0xFD, 0xCB, d, 0x16]
  | .rl_atIYd_to_A d => [0xFD, 0xCB, d, 0x17]
  | .rr_atIYd_to_B d => [0xFD, 0xCB, d, 0x18]
  | .rr_atIYd_to_C d => [0xFD, 0xCB, d, 0x19]
  | .rr_atIYd_to_D d => [0xFD, 0xCB, d, 0x1A]
  | .rr_atIYd_to_E d => [0xFD, 0xCB, d, 0x1B]
  | .rr_atIYd_to_H d => [0xFD, 0xCB, d, 0x1C]
  | .rr_atIYd_to_L d => [0xFD, 0xCB, d, 0x1D]
  | .rr_atIYd d => [0xFD, 0xCB, d, 0x1E]
  | .rr_atIYd_to_A d => [0xFD, 0xCB, d, 0x1F]
  | .sla_atIYd_to_B d => [0xFD, 0xCB, d, 0x20]
  | .sla_atIYd_to_C d => [0xFD, 0xCB, d, 0x21]
  | .sla_atIYd_to_D d => [0xFD, 0xCB, d, 0x22]
  | .sla_atIYd_to_E d => [0xFD, 0xCB, d, 0x23]
  | .sla_atIYd_to_H d => [0xFD, 0xCB, d, 0x24]
  | .sla_atIYd_to_L d => [0xFD, 0xCB, d, 0x25]
  | .sla_atIYd d => [0xFD, 0xCB, d, 0x26]
  | .sla_atIYd_to_A d => [0xFD, 0xCB, d, 0x27]
  | .sra_atIYd_to_B d => [0xFD, 0xCB, d, 0x28]
  | .sra_atIYd_to_C d => [0xFD, 0xCB, d, 0x29]
  | .sra_atIYd_to_D d => [0xFD, 0xCB, d, 0x2A]
  | .sra_atIYd_to_E d => [0xFD, 0xCB, d, 0x2B]
  | .sra_atIYd_to_H d => [0xFD, 0xCB, d, 0x2C]
  | .sra_atIYd_to_L d => [0xFD, 0xCB, d, 0x2D]
  | .sra_atIYd d => [0xFD, 0xCB, d, 0x2E]
  | .sra_atIYd_to_A d => [0xFD, 0xCB, d, 0x2F]
  | .sll_atIYd_to_B d => [0xFD, 0xCB, d, 0x30]
  | .sll_atIYd_to_C d => [0xFD, 0xCB, d, 0x31]
  | .sll_atIYd_to_D d => [0xFD, 0xCB, d, 0x32]
  | .sll_atIYd_to_E d => [0xFD, 0xCB, d, 0x33]
  | .sll_atIYd_to_H d => [0xFD, 0xCB, d, 0x34]
  | .sll_atIYd_to_L d => [0xFD, 0xCB, d, 0x35]
  | .sll_atIYd d => [0xFD, 0xCB, d, 0x36]
  | .sll_atIYd_to_A d => [0xFD, 0xCB, d, 0x37]
  | .srl_atIYd_to_B d => [0xFD, 0xCB, d, 0x38]
  | .srl_atIYd_to_C d => [0xFD, 0xCB, d, 0x39]
  | .srl_atIYd_to_D d => [0xFD, 0xCB, d, 0x3A]
  | .srl_atIYd_to_E d => [0xFD, 0xCB, d, 0x3B]
  | .srl_atIYd_to_H d => [0xFD, 0xCB, d, 0x3C]
  | .srl_atIYd_to_L d => [0xFD, 0xCB, d, 0x3D]
  | .srl_atIYd d => [0xFD, 0xCB, d, 0x3E]
  | .srl_atIYd_to_A d => [0xFD, 0xCB, d, 0x3F]
  | .bit_0_atIYd d z => [0xFD, 0xCB, d, bitIdxSub 0 z]
  | .bit_1_atIYd d z => [0xFD, 0xCB, d, bitIdxSub 1 z]
  | .bit_2_atIYd d z => [0xFD, 0xCB, d, bitIdxSub 2 z]
  | .bit_3_atIYd d z => [0xFD, 0xCB, d, bitIdxSub 3 z]
  | .bit_4_atIYd d z => [0xFD, 0xCB, d, bitIdxSub 4 z]
  | .bit_5_atIYd d z => [0xFD, 0xCB, d, bitIdxSub 5 z]
  | .bit_6_atIYd d z => [0xFD, 0xCB, d, bitIdxSub 6 z]
  | .bit_7_atIYd d z => [0xFD, 0xCB, d, bitIdxSub 7 z]
  | .res_0_atIYd_to_B d => [0xFD, 0xCB, d, 0x80]
  | .res_0_atIYd_to_C d => [0xFD, 0xCB, d, 0x81]
  | .res_0_atIYd_to_D d => [0xFD, 0xCB, d, 0x82]
  | .res_0_atIYd_to_E d => [0xFD, 0xCB, d, 0x83]
  | .res_0_atIYd_to_H d => [0xFD, 0xCB, d, 0x84]
  | .res_0_atIYd_to_L d => [0xFD, 0xCB, d, 0x85]
  | .res_0_atIYd d => [0xFD, 0xCB, d, 0x86]
  | .res_0_atIYd_to_A d => [0xFD, 0xCB, d, 0x87]
  | .res_1_atIYd_to_B d => [0xFD, 0xCB, d, 0x88]
  | .res_1_atIYd_to_C d => [0xFD, 0xCB, d, 0x89]
  | .res_1_atIYd_to_D d => [0xFD, 0xCB, d, 0x8A]
  | .res_1_atIYd_to_E d => [0xFD, 0xCB, d, 0x8B]
  | .res_1_atIYd_to_H d => [0xFD, 0xCB, d, 0x8C]
  | .res_1_atIYd_to_L d => [0xFD, 0xCB, d, 0x8D]
  | .res_1_atIYd d => [0xFD, 0xCB, d, 0x8E]
  | .res_1_atIYd_to_A d => [0xFD, 0xCB, d, 0x8F]
  | .res_2_atIYd_to_B d => [0xFD, 0xCB, d, 0x90]
  | .res_2_atIYd_to_C d => [0xFD, 0xCB, d, 0x91]
  | .res_2_atIYd_to_D d => [0xFD, 0xCB, d, 0x92]
  | .res_2_atIYd_to_E d => [0xFD, 0xCB, d, 0x93]
  | .res_2_atIYd_to_H d => [0xFD, 0xCB, d, 0x94]
  | .res_2_atIYd_to_L d => [0xFD, 0xCB, d, 0x95]
  | .res_2_atIYd d => [0xFD, 0xCB, d, 0x96]
  | .res_2_atIYd_to_A d => [0xFD, 0xCB, d, 0x97]
  | .res_3_atIYd_to_B d => [0xFD, 0xCB, d, 0x98]
  | .res_3_atIYd_to_C d => [0xFD, 0xCB, d, 0x99]
  | .res_3_atIYd_to_D d => [0xFD, 0xCB, d, 0x9A]
  | .res_3_atIYd_to_E d => [0xFD, 0xCB, d, 0x9B]
  | .res_3_atIYd_to_H d => [0xFD, 0xCB, d, 0x9C]
  | .res_3_atIYd_to_L d => [0xFD, 0xCB, d, 0x9D]
  | .res_3_atIYd d => [0xFD, 0xCB, d, 0x9E]
  | .res_3_atIYd_to_A d => [0xFD, 0xCB, d, 0x9F]
  | .res_4_atIYd_to_B d => [0xFD, 0xCB, d, 0xA0]
  | .res_4_atIYd_to_C d => [0xFD, 0xCB, d, 0xA1]
  | .res_4_atIYd_to_D d => [0xFD, 0xCB, d, 0xA2]
  | .res_4_atIYd_to_E d => [0xFD, 0xCB, d, 0xA3]
  | .res_4_atIYd_to_H d => [0xFD, 0xCB, d, 0xA4]
  | .res_4_atIYd_to_L d => [0xFD, 0xCB, d, 0xA5]
  | .res_4_atIYd d => [0xFD, 0xCB, d, 0xA6]
  | .res_4_atIYd_to_A d => [0xFD, 0xCB, d, 0xA7]
  | .res_5_atIYd_to_B d => [0xFD, 0xCB, d, 0xA8]
  | .res_5_atIYd_to_C d => [0xFD, 0xCB, d, 0xA9]
  | .res_5_atIYd_to_D d => [0xFD, 0xCB, d, 0xAA]
  | .res_5_atIYd_to_E d => [0xFD, 0xCB, d, 0xAB]
  | .res_5_atIYd_to_H d => [0xFD, 0xCB, d, 0xAC]
  | .res_5_atIYd_to_L d => [0xFD, 0xCB, d, 0xAD]
  | .res_5_atIYd d => [0xFD, 0xCB, d, 0xAE]
  | .res_5_atIYd_to_A d => [0xFD, 0xCB, d, 0xAF]
  | .res_6_atIYd_to_B d => [0xFD, 0xCB, d, 0xB0]
  | .res_6_atIYd_to_C d => [0xFD, 0xCB, d, 0xB1]
  | .res_6_atIYd_to_D d => [0xFD, 0xCB, d, 0xB2]
  | .res_6_atIYd_to_E d => [0xFD, 0xCB, d, 0xB3]
  | .res_6_atIYd_to_H d => [0xFD, 0xCB, d, 0xB4]
  | .res_6_atIYd_to_L d => [0xFD, 0xCB, d, 0xB5]
  | .res_6_atIYd d => [0xFD, 0xCB, d, 0xB6]
  | .res_6_atIYd_to_A d => [0xFD, 0xCB, d, 0xB7]
  | .res_7_atIYd_to_B d => [0xFD, 0xCB, d, 0xB8]
  | .res_7_atIYd_to_C d => [0xFD, 0xCB, d, 0xB9]
  | .res_7_atIYd_to_D d => [0xFD, 0xCB, d, 0xBA]
  | .res_7_atIYd_to_E d => [0xFD, 0xCB, d, 0xBB]
  | .res_7_atIYd_to_H d => [0xFD, 0xCB, d, 0xBC]
  | .res_7_atIYd_to_L d => [0xFD, 0xCB, d, 0xBD]
  | .res_7_atIYd d => [0xFD, 0xCB, d, 0xBE]
  | .res_7_atIYd_to_A d => [0xFD, 0xCB, d, 0xBF]
  | .set_0_atIYd_to_B d => [0xFD, 0xCB, d, 0xC0]
  | .set_0_atIYd_to_C d => [0xFD, 0xCB, d, 0xC1]
  | .set_0_atIYd_to_D d => [0xFD, 0xCB, d, 0xC2]
  | .set_0_atIYd_to_E d => [0xFD, 0xCB, d, 0xC3]
  | .set_0_atIYd_to_H d => [0xFD, 0xCB, d, 0xC4]
  | .set_0_atIYd_to_L d => [0xFD, 0xCB, d, 0xC5]
  | .set_0_atIYd d => [0xFD, 0xCB, d, 0xC6]
  | .set_0_atIYd_to_A d => [0xFD, 0xCB, d, 0xC7]
  | .set_1_atIYd_to_B d => [0xFD, 0xCB, d, 0xC8]
  | .set_1_atIYd_to_C d => [0xFD, 0xCB, d, 0xC9]
  | .set_1_atIYd_to_D d => [0xFD, 0xCB, d, 0xCA]
  | .set_1_atIYd_to_E d => [0xFD, 0xCB, d, 0xCB]
  | .set_1_atIYd_to_H d => [0xFD, 0xCB, d, 0xCC]
  | .set_1_atIYd_to_L d => [0xFD, 0xCB, d, 0xCD]
  | .set_1_atIYd d => [0xFD, 0xCB, d, 0xCE]
  | .set_1_atIYd_to_A d => [0xFD, 0xCB, d, 0xCF]
  | .set_2_atIYd_to_B d => [0xFD, 0xCB, d, 0xD0]
  | .set_2_atIYd_to_C d => [0xFD, 0xCB, d, 0xD1]
  | .set_2_atIYd_to_D d => [0xFD, 0xCB, d, 0xD2]
  | .set_2_atIYd_to_E d => [0xFD, 0xCB, d, 0xD3]
  | .set_2_atIYd_to_H d => [0xFD, 0xCB, d, 0xD4]
  | .set_2_atIYd_to_L d => [0xFD, 0xCB, d, 0xD5]
  | .set_2_atIYd d => [0xFD, 0xCB, d, 0xD6]
  | .set_2_atIYd_to_A d => [0xFD, 0xCB, d, 0xD7]
  | .set_3_atIYd_to_B d => [0xFD, 0xCB, d, 0xD8]
  | .set_3_atIYd_to_C d => [0xFD, 0xCB, d, 0xD9]
  | .set_3_atIYd_to_D d => [0xFD, 0xCB, d, 0xDA]
  | .set_3_atIYd_to_E d => [0xFD, 0xCB, d, 0xDB]
  | .set_3_atIYd_to_H d => [0xFD, 0xCB, d, 0xDC]
  | .set_3_atIYd_to_L d => [0xFD, 0xCB, d, 0xDD]
  | .set_3_atIYd d => [0xFD, 0xCB, d, 0xDE]
  | .set_3_atIYd_to_A d => [0xFD, 0xCB, d, 0xDF]
  | .set_4_atIYd_to_B d => [0xFD, 0xCB, d, 0xE0]
  | .set_4_atIYd_to_C d => [0xFD, 0xCB, d, 0xE1]
  | .set_4_atIYd_to_D d => [0xFD, 0xCB, d, 0xE2]
  | .set_4_atIYd_to_E d => [0xFD, 0xCB, d, 0xE3]
  | .set_4_atIYd_to_H d => [0xFD, 0xCB, d, 0xE4]
  | .set_4_atIYd_to_L d => [0xFD, 0xCB, d, 0xE5]
  | .set_4_atIYd d => [0xFD, 0xCB, d, 0xE6]
  | .set_4_atIYd_to_A d => [0xFD, 0xCB, d, 0xE7]
  | .set_5_atIYd_to_B d => [0xFD, 0xCB, d, 0xE8]
  | .set_5_atIYd_to_C d => [0xFD, 0xCB, d, 0xE9]
  | .set_5_atIYd_to_D d => [0xFD, 0xCB, d, 0xEA]
  | .set_5_atIYd_to_E d => [0xFD, 0xCB, d, 0xEB]
  | .set_5_atIYd_to_H d => [0xFD, 0xCB, d, 0xEC]
  | .set_5_atIYd_to_L d => [0xFD, 0xCB, d, 0xED]
  | .set_5_atIYd d => [0xFD, 0xCB, d, 0xEE]
  | .set_5_atIYd_to_A d => [0xFD, 0xCB, d, 0xEF]
  | .set_6_atIYd_to_B d => [0xFD, 0xCB, d, 0xF0]
  | .set_6_atIYd_to_C d => [0xFD, 0xCB, d, 0xF1]
  | .set_6_atIYd_to_D d => [0xFD, 0xCB, d, 0xF2]
  | .set_6_atIYd_to_E d => [0xFD, 0xCB, d, 0xF3]
  | .set_6_atIYd_to_H d => [0xFD, 0xCB, d, 0xF4]
  | .set_6_atIYd_to_L d => [0xFD, 0xCB, d, 0xF5]
  | .set_6_atIYd d => [0xFD, 0xCB, d, 0xF6]
  | .set_6_atIYd_to_A d => [0xFD, 0xCB, d, 0xF7]
  | .set_7_atIYd_to_B d => [0xFD, 0xCB, d, 0xF8]
  | .set_7_atIYd_to_C d => [0xFD, 0xCB, d, 0xF9]
  | .set_7_atIYd_to_D d => [0xFD, 0xCB, d, 0xFA]
  | .set_7_atIYd_to_E d => [0xFD, 0xCB, d, 0xFB]
  | .set_7_atIYd_to_H d => [0xFD, 0xCB, d, 0xFC]
  | .set_7_atIYd_to_L d => [0xFD, 0xCB, d, 0xFD]
  | .set_7_atIYd d => [0xFD, 0xCB, d, 0xFE]
  | .set_7_atIYd_to_A d => [0xFD, 0xCB, d, 0xFF]
  | .pop_IY => [0xFD, 0xE1]
  | .ex_atSP_IY => [0xFD, 0xE3]
  | .push_IY => [0xFD, 0xE5]
  | .jp_atIY => [0xFD, 0xE9]
  | .ld_SP_IY => [0xFD, 0xF9]
  | .invalid p op => [p.byte, op]

/-! ## Words as the opcode table numbers them -/

/-- The bytes of an instruction whose bits are `w`: opcode_table.json reads a row as one number with byte 0 its most significant
byte (`match` 0x010000 is 01 00 00), and the bytes past the table's are zero. DEDUCED, log entry 6. -/
def tableBytes (nbits w : Nat) : List Byte :=
  (List.range ((nbits + 7) / 8)).map (fun k => BitVec.ofNat 8 (w >>> (8 * ((nbits + 7) / 8 - 1 - k))))
    ++ [0, 0, 0, 0]

/-- The instruction the decoder reads from a word of the opcode table. -/
noncomputable def decodeTableWord (nbits w : Nat) : Option Instr :=
  match decode (tableBytes nbits w) with
  | .ok (i, _) => some i
  | .error _ => none

end Sys2Proof
end

