-- ==== Sys2Proof/Config.lean ====
section
/-! DEFINITION. What is fixed for a machine, and the free values: constants with no body, so that a claim
holds whatever they are. -/

namespace Sys2Proof.Config

/-- What an unlisted memory address reads as: one choice of MEM_INIT (R491, D33), the one 95_test_vectors.md
section 0 makes. DESIGN CHOICE, log entry 1. A start state with other contents lists them. -/
def memUnlisted : Byte := 0x00

/-- IO_ENV (R81, D9): the byte the environment supplies for the draw numbered `k` from port `port`. No body: any byte,
with no relation between two draws. The arrival of console input is such draws too (U12). Log entry 2. -/
opaque ioEnv (k : Nat) (port : Byte) : Byte

/-- What the console's command byte does to its TXEN and RXEN latches (R464): the source does not give the bits
(U11), so it is an uninterpreted function of the byte and the latches. Log entry 3. -/
opaque consoleCommand (command : Byte) (latches : Bool × Bool) : Bool × Bool

/-- The byte a dummy latch holds before the first write (R465, U10), for the `k`-th device. No body: any byte. Log entry 3. -/
opaque latchInit (k : Nat) : Byte

/-- The TXEN and RXEN latches of a console at cold boot (R491, U11), for the `k`-th device. No body. Log entry 3. -/
opaque consoleInit (k : Nat) : Bool × Bool

end Sys2Proof.Config
end

