-- ==== Sys2Proof/Machine/State.lean ====
section
/-! DEFINITION. The machine's state as plain data, the reasons a step can stop, and the state after cold reset. -/

namespace Sys2Proof.Machine

/-- R43: selects only the spelling the disassembler prints. -/
inductive Mode where
  | z80 | i8080
  deriving DecidableEq, Repr

/-- R452: the kind of an access that failed; a fetch is a read (D22). -/
inductive AccessKind where
  | read | write
  deriving DecidableEq, Repr

/-- R71: the two attributes of a page. -/
structure PageAttr where
  readable : Bool
  writable : Bool
  deriving DecidableEq, Repr

/-- The eight principal 8-bit registers (R30): each pair is two of them, the high byte first. -/
structure RegFile where
  a : Byte
  f : Byte
  b : Byte
  c : Byte
  d : Byte
  e : Byte
  h : Byte
  l : Byte
  deriving DecidableEq, Repr

/-- R450, R454: the condition the last step returned, for the conditions after which the machine has a state.
`BadAccess` and `InvalidInstruction` are faults (R457, R471) and stand in `Fault`. -/
inductive StepResult where
  | ok
  | halt (pc : Word)
  | breakpoint (pc : Word) (callback : Option Nat)
  deriving DecidableEq, Repr

/-- R44: a breakpoint: its address and the name of its optional callback. -/
structure Breakpoint where
  addr     : Nat
  callback : Option Nat
  deriving DecidableEq, Repr

/-- The USART console as a program sees it (R464). -/
structure Console where
  buffer   : Option Byte
  modeByte : Option Byte
  txen     : Bool
  rxen     : Bool
  emitted  : List Byte
  deriving DecidableEq, Repr

/-- The devices behind the ports (R463): the dummy latch (R465), the console (R464), or any other device, whose
reads are draws of the I/O environment. -/
inductive DeviceKind where
  | latch (value : Byte)
  | console (c : Console)
  | other
  deriving DecidableEq, Repr

/-- A device and whether `shutdown()` has been called on it (R463). -/
structure Device where
  kind     : DeviceKind
  shutDown : Bool
  deriving DecidableEq, Repr

/-- R462: an entry of the I/O slot vector: a port, the device that owns it and the device's base port. -/
structure IoSlot where
  port   : Nat
  device : Nat
  base   : Nat
  deriving DecidableEq, Repr

/-- One port access, as the devices see it (R81, R82). -/
inductive IoEvent where
  | input (port value : Byte)
  | output (port value : Byte)
  deriving DecidableEq, Repr

/-- The whole machine: the CPU (10_state.md), the memory and page attributes of the bus (R70, R71), the I/O side
(R81, R82, R462), and the result of the last step (R450). -/
structure State where
  /-- A, F, B, C, D, E, H, L (R30, R32). -/
  regs  : RegFile
  /-- AF' (R33). -/
  afAlt : Word
  /-- BC' (R33). -/
  bcAlt : Word
  /-- DE' (R33). -/
  deAlt : Word
  /-- HL' (R33). -/
  hlAlt : Word
  /-- IX (R34). -/
  ix    : Word
  /-- IY (R34). -/
  iy    : Word
  /-- SP (R35). -/
  sp    : Word
  /-- PC (R36): between steps the address of the next instruction, during one `pc0`. -/
  pc    : Word
  /-- WZ, also called MEMPTR (R41). -/
  wz    : Word
  /-- I (R37). -/
  i     : Byte
  /-- R (R38). -/
  r     : Byte
  /-- IM (R39): 0, 1 or 2. -/
  im    : BitVec 2
  /-- IFF1 (R40). -/
  iff1  : Bool
  /-- IFF2 (R40). -/
  iff2  : Bool
  /-- The cycle accumulator (R42). -/
  cycles : BitVec 64
  /-- The construction tag (R43). -/
  mode  : Mode
  /-- The debug flag (R44). -/
  debugFlag : Bool
  /-- The breakpoint map (R44): addresses strictly rising. -/
  breakpoints : List Breakpoint
  /-- The memory array (R70): addresses strictly rising, no entry equal to what an unlisted address reads as. -/
  mem   : List Host.Cell
  /-- The page attributes (R71). -/
  pages : Vector PageAttr 64
  /-- The I/O slot vector (R462): ports strictly rising. -/
  slots : List IoSlot
  /-- The devices the slots name (R463). -/
  devices : List Device
  /-- The bytes the environment has ready for the next draws, oldest first (R81); the model's own field. -/
  ioIn  : List Byte
  /-- How many draws there have been: the argument of the free value `Config.ioEnv`; the model's own field. -/
  ioDraws : Nat
  /-- The port accesses so far, oldest first (R87); the model's own field. -/
  ioTrace : List IoEvent
  /-- The reasons devices have pushed to request termination, oldest first (R466). -/
  shutdownReasons : List String
  /-- The condition the last step returned (R450); the model's own field. -/
  result : StepResult
  deriving DecidableEq, Repr

/-- The reasons a step ends with no state to go on from. -/
inductive Fault where
  /-- Raised by a memory read, write or instruction fetch on a page without the attribute (R452): the state after it is
  unspecified (R457), so stopping is safe. -/
  | badAccess (pc addr : Word) (kind : AccessKind)
  /-- Raised by an undefined ED, DD or FD opcode (R451): the step changes no state and a further step raises it again, so
  the state before the step is the state after it; stopping is safe. -/
  | invalidInstruction (pc : Word) (pre op : Byte)
  deriving DecidableEq, Repr

/-- The reasons the model gives an instruction no meaning. -/
inductive Refusal where
  /-- Raised by an arm of `exec` for an instruction that is not modelled yet; no arm does. Safe: nothing is claimed. -/
  | notModelled (mnemonic : String)
  deriving DecidableEq, Repr

/-- What `exec`, every meaning and `step` answer. -/
abbrev Result := Host.Outcome State Fault Refusal

/-- A read-only page (R71). -/
def PageAttr.rom : PageAttr := ⟨true, false⟩

/-- A page of RAM (R71). -/
def PageAttr.ram : PageAttr := ⟨true, true⟩

/-- An unmapped page (R71). -/
def PageAttr.unmapped : PageAttr := ⟨false, false⟩

/-- The default map (R86, D1): pages 0 to 3 boot ROM, pages 4 to 63 RAM, the reserved region among them. -/
def defaultPages : Vector PageAttr 64 :=
  ⟨(List.replicate 4 PageAttr.rom ++ List.replicate 60 PageAttr.ram).toArray, rfl⟩

/-- The bus a CPU is constructed with (R490, R491). -/
structure Bus where
  pages   : Vector PageAttr 64
  mem     : List Host.Cell
  slots   : List IoSlot
  devices : List Device
  deriving DecidableEq, Repr

/-- Every principal register zero (R490). -/
def RegFile.zero : RegFile := ⟨0, 0, 0, 0, 0, 0, 0, 0⟩

/-- Cold reset (R490): the CPU is constructed with a bus and a mode; every register is zero, interrupts are disabled, the
breakpoint map is empty. Memory and devices are the bus's (R491). DESIGN CHOICE that no shutdown request is pending, and the
values of the model's own fields, log entry 16. -/
def State.cold (bus : Bus) (mode : Mode) : State where
  regs := RegFile.zero
  afAlt := 0
  bcAlt := 0
  deAlt := 0
  hlAlt := 0
  ix := 0
  iy := 0
  sp := 0
  pc := 0
  wz := 0
  i := 0
  r := 0
  im := 0
  iff1 := false
  iff2 := false
  cycles := 0
  mode := mode
  debugFlag := false
  breakpoints := []
  mem := bus.mem
  pages := bus.pages
  slots := bus.slots
  devices := bus.devices
  ioIn := []
  ioDraws := 0
  ioTrace := []
  shutdownReasons := []
  result := .ok

/-- The default bus: the default map, no memory listed, no device declared. DESIGN CHOICE, log entries 1, 4 and 5. -/
def defaultBus : Bus := ⟨defaultPages, [], [], []⟩

/-- The machine right after cold reset on the default bus, in Z80 mode (R490; log entry 4). -/
def State.reset : State := State.cold defaultBus .z80

end Sys2Proof.Machine
end

