-- ==== Sys2Proof/Machine/Io.lean ====
section
/-! DEFINITION. Port access (R80 to R82) and the devices behind the ports (R462 to R465). -/

namespace Sys2Proof.Machine

/-- Replace the element at an index; an index past the end changes nothing. -/
def replaceAt {α : Type} (l : List α) (k : Nat) (x : α) : List α :=
  match l, k with
  | [], _ => []
  | _ :: rest, 0 => x :: rest
  | y :: rest, k + 1 => y :: replaceAt rest k x

/-- The slot of a port in the I/O slot vector, if a device owns the port (R462). -/
def slotOf (slots : List IoSlot) (port : Byte) : Option IoSlot :=
  slots.find? (fun sl => sl.port == port.toNat)

/-- One draw of the I/O environment (R81): the next byte the environment has ready, else the free value. -/
def State.draw (s : State) (port : Byte) : Byte × State :=
  match s.ioIn with
  | v :: rest => (v, { s with ioIn := rest, ioDraws := s.ioDraws + 1 })
  | [] => (Config.ioEnv s.ioDraws port, { s with ioDraws := s.ioDraws + 1 })

/-- Put a device in place of the device of that index. -/
def State.setDevice (s : State) (k : Nat) (dev : Device) : State :=
  { s with devices := replaceAt s.devices k dev }

/-- The console's worker, as a read of one of its ports finds it (R464, U12): while the buffer is empty an input byte may
have arrived. Whether one has is a draw, of which bit 1 (the place of RXRDY) counts, and which byte it is another.
DESIGN CHOICE of the form of the draws, log entry 2. -/
def State.consoleArrival (s : State) (port : Byte) (c : Console) : Console × State :=
  match c.buffer with
  | some _ => (c, s)
  | none =>
    if (s.draw port).1.getLsbD 1 then
      ({ c with buffer := some ((s.draw port).2.draw port).1 }, ((s.draw port).2.draw port).2)
    else (c, (s.draw port).2)

/-- The console's status byte (R464): bit 0 set, bit 1 set iff a byte is buffered, the other bits any value (U11). -/
def consoleStatus (c : Console) (free : Byte) : Byte :=
  (free &&& 0xFC) ||| 0x01 ||| (if c.buffer.isSome then 0x02 else 0x00)

/-- A read of the console's data port (R464): the buffered byte, which the read takes out, or 0xFF. -/
def State.consoleDataRead (s : State) (port : Byte) (k : Nat) (c : Console) (down : Bool) : Byte × State :=
  ((s.consoleArrival port c).1.buffer.getD 0xFF,
    (s.consoleArrival port c).2.setDevice k ⟨.console { (s.consoleArrival port c).1 with buffer := none }, down⟩)

/-- A read of the console's status port (R464): the bits that are not given are a draw (U11). -/
def State.consoleStatusRead (s : State) (port : Byte) (k : Nat) (c : Console) (down : Bool) : Byte × State :=
  (consoleStatus (s.consoleArrival port c).1 ((s.consoleArrival port c).2.draw port).1,
    ((s.consoleArrival port c).2.draw port).2.setDevice k ⟨.console (s.consoleArrival port c).1, down⟩)

/-- The read operation of an owned port (R463 to R465). -/
def State.deviceRead (s : State) (port : Byte) (sl : IoSlot) : Byte × State :=
  match s.devices[sl.device]? with
  | some ⟨.latch v, _⟩ => (v, s)
  | some ⟨.console c, down⟩ =>
    if port.toNat - sl.base = 0 then s.consoleDataRead port sl.device c down
    else if port.toNat - sl.base = 1 then s.consoleStatusRead port sl.device c down
    else s.draw port
  | some ⟨.other, _⟩ => s.draw port
  | none => s.draw port

/-- The write operation of an owned port (R463 to R465): the first write of the console's status port is the mode byte, a
later one a command byte. -/
def State.deviceWrite (s : State) (port : Byte) (sl : IoSlot) (v : Byte) : State :=
  match s.devices[sl.device]? with
  | some ⟨.latch _, down⟩ => s.setDevice sl.device ⟨.latch v, down⟩
  | some ⟨.console c, down⟩ =>
    if port.toNat - sl.base = 0 then
      s.setDevice sl.device ⟨.console { c with emitted := if c.txen then c.emitted ++ [v] else c.emitted }, down⟩
    else if port.toNat - sl.base = 1 then
      match c.modeByte with
      | none => s.setDevice sl.device ⟨.console { c with modeByte := some v }, down⟩
      | some _ =>
        s.setDevice sl.device ⟨.console { c with
          txen := (Config.consoleCommand v (c.txen, c.rxen)).1
          rxen := (Config.consoleCommand v (c.txen, c.rxen)).2 }, down⟩
    else s
  | some ⟨.other, _⟩ => s
  | none => s

/-- The byte a port supplies and the state after the devices have seen the read, before it is traced (R81, R462). -/
def State.portRead (s : State) (port : Byte) : Byte × State :=
  match slotOf s.slots port with
  | some sl => s.deviceRead port sl
  | none => s.draw port

/-- `IORead(port)` (R81): never raises a condition. -/
def State.ioRead (s : State) (port : Byte) : Byte × State :=
  ((s.portRead port).1,
    { (s.portRead port).2 with ioTrace := s.ioTrace ++ [.input port (s.portRead port).1] })

/-- What a write to a port does to the devices (R82, R462): a port no device owns has no effect on the core. -/
def State.portWrite (s : State) (port v : Byte) : State :=
  match slotOf s.slots port with
  | some sl => s.deviceWrite port sl v
  | none => s

/-- `IOWrite(port, v)` (R82): never raises a condition. -/
def State.ioWrite (s : State) (port v : Byte) : State :=
  { s.portWrite port v with ioTrace := s.ioTrace ++ [.output port v] }

end Sys2Proof.Machine
end

