-- ==== Sys2Proof/Machine/Memory.lean ====
section
/-! DEFINITION. The memory array (R70) as a list of cells in one canonical form. -/

namespace Sys2Proof.Memory

/-- The byte at an address; an unlisted address reads as `Config.memUnlisted`. -/
def read (m : List Host.Cell) (a : Nat) : Byte :=
  match m with
  | [] => Config.memUnlisted
  | (k, v) :: rest => if k = a then v else read rest a

/-- Store a byte, keeping the canonical form: storing what an unlisted address reads as removes the entry. -/
def write (m : List Host.Cell) (a : Nat) (v : Byte) : List Host.Cell :=
  match m with
  | [] => if v = Config.memUnlisted then [] else [(a, v)]
  | (k, w) :: rest =>
    if a < k then (if v = Config.memUnlisted then (k, w) :: rest else (a, v) :: (k, w) :: rest)
    else if a = k then (if v = Config.memUnlisted then rest else (a, v) :: rest)
    else (k, w) :: write rest a v

/-- The canonical form from address `low` on: addresses strictly rising, each in the address space, no entry equal to what
an unlisted address reads as. -/
def wfFrom (low : Nat) (m : List Host.Cell) : Bool :=
  match m with
  | [] => true
  | (k, v) :: rest => decide (low ≤ k) && decide (k < addressCount) && (v != Config.memUnlisted) && wfFrom (k + 1) rest

/-- The canonical form. -/
def wf (m : List Host.Cell) : Bool := wfFrom 0 m

/-- Store bytes at rising addresses. -/
def writeMany (m : List Host.Cell) (a : Nat) (bytes : List Byte) : List Host.Cell :=
  match bytes with
  | [] => m
  | v :: rest => writeMany (write m a v) (a + 1) rest

end Sys2Proof.Memory
end

