-- ==== Sys2Proof/Machine/Ops.lean ====
section
/-! DEFINITION. The named operations over memory, the stack and PC, and the conditions a step can end with. -/

namespace Sys2Proof.Machine

/-- `MEM_READABLE` of the page of an address (R71). -/
def State.canRead (s : State) (a : Word) : Bool := s.pages[pageOf a].readable

/-- `MEM_WRITABLE` of the page of an address (R71). -/
def State.canWrite (s : State) (a : Word) : Bool := s.pages[pageOf a].writable

/-- The byte stored at an address, whatever the page attributes (R85: the host's view). -/
def State.peek (s : State) (a : Word) : Byte := Memory.read s.mem a.toNat

/-- Store a byte at an address, whatever the page attributes (R85). -/
def State.poke (s : State) (a : Word) (v : Byte) : State := { s with mem := Memory.write s.mem a.toNat v }

/-- The state with the page of an address readable; the model's own operation, for placing an instruction. -/
def State.openPage (s : State) (a : Word) : State :=
  { s with pages := s.pages.set (pageOf a) { s.pages[pageOf a] with readable := true } }

/-- The state with bytes stored from an address on, each on a readable page. -/
def State.placeBytes (s : State) (a : Word) (bytes : List Byte) : State :=
  match bytes with
  | [] => s
  | v :: rest => ((s.openPage a).poke a v).placeBytes (a + 1) rest

/-- `raise BadAccess(pc0, addr, kind)` (R452). PC is written last in every step, so `pc` is still pc0 here. -/
def State.raiseBadAccess {α : Type} (s : State) (a : Word) (kind : AccessKind) : Except Fault α :=
  .error (.badAccess s.pc a kind)

/-- `raise InvalidInstruction(pc0, [prefix, op])` (R451). -/
def State.raiseInvalid {α : Type} (s : State) (pre op : Byte) : Except Fault α :=
  .error (.invalidInstruction s.pc pre op)

/-- `MemRead(addr, 1)` (R72). -/
def State.memRead (s : State) (a : Word) : Except Fault Byte :=
  if s.canRead a then .ok (s.peek a) else s.raiseBadAccess a .read

/-- `MemWrite(addr, 1, v)` (R73). -/
def State.memWrite (s : State) (a : Word) (v : Byte) : Except Fault State :=
  if s.canWrite a then .ok (s.poke a v) else s.raiseBadAccess a .write

/-- `MemRead(addr, 2)` (R74): the low byte first, the address of the high byte modulo 2^16. -/
def State.memRead16 (s : State) (a : Word) : Except Fault Word := do
  let l ← s.memRead a
  let h ← s.memRead (a + 1)
  pure (join h l)

/-- `MemWrite(addr, 2, v)` (R74): the low byte first. -/
def State.memWrite16 (s : State) (a v : Word) : Except Fault State := do
  let s1 ← s.memWrite a (lo v)
  s1.memWrite (a + 1) (hi v)

/-- `Push16(v)` (R76): the high byte first. -/
def State.push16 (s : State) (v : Word) : Except Fault State := do
  let s1 ← s.memWrite (s.sp - 1) (hi v)
  let s2 ← s1.memWrite (s.sp - 2) (lo v)
  pure { s2 with sp := s.sp - 2 }

/-- `Pop16()` (R77): the low byte first. -/
def State.pop16 (s : State) : Except Fault (Word × State) := do
  let v ← s.memRead16 s.sp
  pure (v, { s with sp := s.sp + 2 })

/-- The address after an instruction of that length (R130). -/
def State.nextPc (s : State) (len : Nat) : Word := s.pc + BitVec.ofNat 16 len

/-- A completed step that ends with PC at an address: `pc <- target` (R130), the cost (R131) and `Ok` (R450). -/
def State.finishAt (s : State) (target : Word) (cost : Nat) : State :=
  { s with pc := target, cycles := s.cycles + BitVec.ofNat 64 cost, result := .ok }

/-- A completed step that ends with PC at the next instruction (R130, R131). -/
def State.finish (s : State) (len cost : Nat) : State := s.finishAt (s.nextPc len) cost

/-- The Halt condition (R453): PC stays at the HALT byte, the cost is added (R425). -/
def State.haltCondition (s : State) (cost : Nat) : State :=
  { s with cycles := s.cycles + BitVec.ofNat 64 cost, result := .halt s.pc }

/-- The outcome of a step that ends with a state or with a fault. -/
def outcome (x : Except Fault State) : Result :=
  match x with
  | .ok s => .next s
  | .error f => .fault f

end Sys2Proof.Machine
end

