-- ==== Sys2Proof/Machine/Operands.lean ====
section
/-! DEFINITION. The register multiplexer (R31): every register, pair and index operand, the effective address of
`(xy+d)` (R120), and the conditions (R116). -/

namespace Sys2Proof.Machine

/-- An 8-bit register of the register file (R30, R113). -/
def RegFile.get (g : RegFile) : Reg8 → Byte
  | .B => g.b | .C => g.c | .D => g.d | .E => g.e | .H => g.h | .L => g.l | .A => g.a

/-- Write an 8-bit register; the other half of its pair is unchanged (R30). -/
def RegFile.set (g : RegFile) (r : Reg8) (v : Byte) : RegFile :=
  match r with
  | .B => { g with b := v }
  | .C => { g with c := v }
  | .D => { g with d := v }
  | .E => { g with e := v }
  | .H => { g with h := v }
  | .L => { g with l := v }
  | .A => { g with a := v }

/-- The register a plain register code selects (R113). -/
def plainReg : PlainReg → Reg8
  | .B => .B | .C => .C | .D => .D | .E => .E | .A => .A

/-- The accumulator. -/
def State.a (s : State) : Byte := s.regs.a
/-- The flags (R32). -/
def State.f (s : State) : Byte := s.regs.f
/-- AF = A:F (R30). -/
def State.af (s : State) : Word := join s.regs.a s.regs.f
/-- BC = B:C (R30). -/
def State.bc (s : State) : Word := join s.regs.b s.regs.c
/-- DE = D:E (R30). -/
def State.de (s : State) : Word := join s.regs.d s.regs.e
/-- HL = H:L (R30). -/
def State.hl (s : State) : Word := join s.regs.h s.regs.l

/-- Read an 8-bit register. -/
def State.reg (s : State) (r : Reg8) : Byte := s.regs.get r

/-- Write an 8-bit register. -/
def State.setReg (s : State) (r : Reg8) (v : Byte) : State := { s with regs := s.regs.set r v }

/-- Write the accumulator. -/
def State.setA (s : State) (v : Byte) : State := { s with regs := { s.regs with a := v } }
/-- Write the flags as a whole (R160). -/
def State.setF (s : State) (v : Byte) : State := { s with regs := { s.regs with f := v } }
/-- Write A and F. -/
def State.setAF8 (s : State) (a f : Byte) : State := { s with regs := { s.regs with a := a, f := f } }
/-- Write AF (R30): both halves. -/
def State.setAF (s : State) (w : Word) : State := { s with regs := { s.regs with a := hi w, f := lo w } }
/-- Write BC (R30): both halves. -/
def State.setBC (s : State) (w : Word) : State := { s with regs := { s.regs with b := hi w, c := lo w } }
/-- Write DE (R30): both halves. -/
def State.setDE (s : State) (w : Word) : State := { s with regs := { s.regs with d := hi w, e := lo w } }
/-- Write HL (R30): both halves. -/
def State.setHL (s : State) (w : Word) : State := { s with regs := { s.regs with h := hi w, l := lo w } }
/-- Write WZ (R41). -/
def State.setWZ (s : State) (w : Word) : State := { s with wz := w }

/-- Read a pair of the code rp (R114). -/
def State.pair (s : State) : Pair → Word
  | .BC => s.bc | .DE => s.de | .HL => s.hl | .SP => s.sp

/-- Write a pair of the code rp (R114). -/
def State.setPair (s : State) (p : Pair) (w : Word) : State :=
  match p with
  | .BC => s.setBC w
  | .DE => s.setDE w
  | .HL => s.setHL w
  | .SP => { s with sp := w }

/-- Read a pair of the code rp2 (R115). -/
def State.stackPair (s : State) : StackPair → Word
  | .BC => s.bc | .DE => s.de | .HL => s.hl | .AF => s.af

/-- Write a pair of the code rp2 (R115). -/
def State.setStackPair (s : State) (p : StackPair) (w : Word) : State :=
  match p with
  | .BC => s.setBC w
  | .DE => s.setDE w
  | .HL => s.setHL w
  | .AF => s.setAF w

/-- Read an index register (R34). -/
def State.index (s : State) : Index → Word
  | .IX => s.ix | .IY => s.iy

/-- Write an index register (R34). -/
def State.setIndex (s : State) (x : Index) (w : Word) : State :=
  match x with
  | .IX => { s with ix := w }
  | .IY => { s with iy := w }

/-- Read the operand pp of ADD xy,pp (R303). -/
def State.indexPair (s : State) (x : Index) : IndexPair → Word
  | .BC => s.bc | .DE => s.de | .XY => s.index x | .SP => s.sp

/-- Read a half of an index register (R34, R119 item 3). -/
def State.half (s : State) (x : Index) : Half → Byte
  | .H => hi (s.index x) | .L => lo (s.index x)

/-- Write a half of an index register; the other half is unchanged (R34). -/
def State.setHalf (s : State) (x : Index) (h : Half) (v : Byte) : State :=
  match h with
  | .H => s.setIndex x (join v (lo (s.index x)))
  | .L => s.setIndex x (join (hi (s.index x)) v)

/-- BC or DE as the address of an accumulator load (R208 to R211). -/
def State.accPointer (s : State) : AccPointer → Word
  | .BC => s.bc | .DE => s.de

/-- I or R (R37, R38). -/
def State.special (s : State) : SpecialReg → Byte
  | .I => s.i | .R => s.r

/-- Write I or R (R37, R38). -/
def State.setSpecial (s : State) (q : SpecialReg) (v : Byte) : State :=
  match q with
  | .I => { s with i := v }
  | .R => { s with r := v }

/-- The operand address of `(xy+d)`: `ea = (xy + sext_16(d))_16` (R120). -/
def State.ea (s : State) (x : Index) (d : Byte) : Word := s.index x + sext d

/-- Write the register a DDCB/FDCB instruction copies its result to, if it has one (R340). -/
def State.copyTo (s : State) (copy : Option Reg8) (v : Byte) : State :=
  match copy with
  | none => s
  | some r => s.setReg r v

/-- C, bit 0 of F (R32). -/
def flagC (f : Byte) : Bool := f.getLsbD 0
/-- N, bit 1 of F (R32). -/
def flagN (f : Byte) : Bool := f.getLsbD 1
/-- P/V, bit 2 of F (R32). -/
def flagPV (f : Byte) : Bool := f.getLsbD 2
/-- X, bit 3 of F (R32). -/
def flagX (f : Byte) : Bool := f.getLsbD 3
/-- H, bit 4 of F (R32). -/
def flagH (f : Byte) : Bool := f.getLsbD 4
/-- Y, bit 5 of F (R32). -/
def flagY (f : Byte) : Bool := f.getLsbD 5
/-- Z, bit 6 of F (R32). -/
def flagZ (f : Byte) : Bool := f.getLsbD 6
/-- S, bit 7 of F (R32). -/
def flagS (f : Byte) : Bool := f.getLsbD 7

/-- When a condition holds (R116); it reads F and writes nothing. -/
def condHolds (cc : Cond) (f : Byte) : Bool :=
  match cc with
  | .NZ => !flagZ f
  | .Z => flagZ f
  | .NC => !flagC f
  | .C => flagC f
  | .PO => !flagPV f
  | .PE => flagPV f
  | .P => !flagS f
  | .M => flagS f

end Sys2Proof.Machine
end

