-- ==== Sys2Proof/Machine/Flags.lean ====
section
/-! DEFINITION. The flag tables and the ALU primitives of 40_alu_primitives.md. Each primitive is a pure function; it
returns a complete flag byte (R160). -/

namespace Sys2Proof.Machine

/-- A flag bit: the byte `mask` when the condition holds, else zero. -/
def bitIf (b : Bool) (mask : Byte) : Byte := if b then mask else 0x00

/-- How many bits of a byte are one (R6). -/
def popcount (v : Byte) : Nat := ((List.range 8).filter (fun k => v.getLsbD k)).length

/-- R150. -/
def sz53 (v : Byte) : Byte := (v &&& 0xA8) ||| bitIf (v == 0) 0x40

/-- R151. -/
def parity (v : Byte) : Byte := bitIf (popcount v % 2 == 0) 0x04

/-- R152. -/
def sz53p (v : Byte) : Byte := sz53 v ||| parity v

/-- The three bits of a result and its operands at one position, the result's the most significant (R153). -/
def triple {w : Nat} (res op1 op2 : BitVec w) (at_ : Nat) : Nat :=
  ((res.getLsbD at_).toNat <<< 2) ||| ((op1.getLsbD at_).toNat <<< 1) ||| (op2.getLsbD at_).toNat

/-- R153: the H triple in bits 0 to 2, the V triple in bits 4 to 6. -/
def r12 {w : Nat} (res op1 op2 : BitVec w) (hb vb : Nat) : Nat :=
  triple res op1 op2 hb ||| (triple res op1 op2 vb <<< 4)

/-- R154. -/
def halfcarryAdd : List Byte := [0x00, 0x10, 0x10, 0x10, 0x00, 0x00, 0x00, 0x10]
/-- R155. -/
def halfcarrySub : List Byte := [0x00, 0x10, 0x00, 0x00, 0x10, 0x10, 0x00, 0x10]
/-- R156. -/
def overflowAdd : List Byte := [0x00, 0x00, 0x00, 0x04, 0x04, 0x00, 0x00, 0x00]
/-- R157. -/
def overflowSub : List Byte := [0x00, 0x00, 0x04, 0x00, 0x00, 0x04, 0x00, 0x00]

/-- A table's entry for the H triple, `i & 7` (R153). -/
def hEntry (table : List Byte) (i : Nat) : Byte := table.getD (i &&& 7) 0x00

/-- A table's entry for the V triple, `i >> 4` (R153). -/
def vEntry (table : List Byte) (i : Nat) : Byte := table.getD (i >>> 4) 0x00

/-- R161. -/
def add8 (a v : Byte) (cin : Bool) : Byte × Byte :=
  let s := a.toNat + v.toNat + cin.toNat
  let r := BitVec.ofNat 8 s
  let i := r12 r a v 3 7
  (r, sz53 r ||| hEntry halfcarryAdd i ||| vEntry overflowAdd i ||| bitIf (decide (s > 0xFF)) 0x01)

/-- R162. -/
def sub8 (a v : Byte) (cin : Bool) : Byte × Byte :=
  let s : Int := (a.toNat : Int) - (v.toNat : Int) - (cin.toNat : Int)
  let r := BitVec.ofInt 8 s
  let i := r12 r a v 3 7
  (r, sz53 r ||| hEntry halfcarrySub i ||| vEntry overflowSub i ||| 0x02 ||| bitIf (decide (s < 0)) 0x01)

/-- R163. -/
def and8 (a v : Byte) : Byte × Byte := (a &&& v, sz53p (a &&& v) ||| 0x10)

/-- R164. -/
def or8 (a v : Byte) : Byte × Byte := (a ||| v, sz53p (a ||| v))

/-- R165. -/
def xor8 (a v : Byte) : Byte × Byte := (a ^^^ v, sz53p (a ^^^ v))

/-- R166. -/
def cp8 (a v : Byte) : Byte := ((sub8 a v false).2 &&& 0xD7) ||| (v &&& 0x28)

/-- R167. -/
def inc8 (v fOld : Byte) : Byte × Byte :=
  let r := v + 1
  (r, (fOld &&& 0x01) ||| sz53 r ||| bitIf ((r &&& 0x0F) == 0) 0x10 ||| bitIf (v == 0x7F) 0x04)

/-- R168. -/
def dec8 (v fOld : Byte) : Byte × Byte :=
  let r := v - 1
  (r, (fOld &&& 0x01) ||| sz53 r ||| 0x02 ||| bitIf ((v &&& 0x0F) == 0) 0x10 ||| bitIf (v == 0x80) 0x04)

/-- R169. -/
def add16 (x y : Word) (fOld : Byte) : Word × Byte :=
  let s := x.toNat + y.toNat
  let r := BitVec.ofNat 16 s
  let i := r12 r x y 11 15
  (r, (fOld &&& 0xC4) ||| (hi r &&& 0x28) ||| hEntry halfcarryAdd i ||| bitIf (decide (s > 0xFFFF)) 0x01)

/-- R170. -/
def adc16 (x y : Word) (cin : Bool) : Word × Byte :=
  let s := x.toNat + y.toNat + cin.toNat
  let r := BitVec.ofNat 16 s
  let i := r12 r x y 11 15
  (r, (hi r &&& 0xA8) ||| bitIf (r == 0) 0x40 ||| hEntry halfcarryAdd i ||| vEntry overflowAdd i
    ||| bitIf (decide (s > 0xFFFF)) 0x01)

/-- R171. -/
def sbc16 (x y : Word) (cin : Bool) : Word × Byte :=
  let s : Int := (x.toNat : Int) - (y.toNat : Int) - (cin.toNat : Int)
  let r := BitVec.ofInt 16 s
  let i := r12 r x y 11 15
  (r, (hi r &&& 0xA8) ||| bitIf (r == 0) 0x40 ||| hEntry halfcarrySub i ||| vEntry overflowSub i ||| 0x02
    ||| bitIf (decide (s < 0)) 0x01)

/-- The result of a rotate or shift of a byte with the old carry (R172 to R179). -/
def rotResult (k : RotOp) (v : Byte) (c : Bool) : Byte :=
  match k with
  | .rlc => (v <<< 1) ||| bitIf (v.getLsbD 7) 0x01
  | .rrc => (v >>> 1) ||| bitIf (v.getLsbD 0) 0x80
  | .rl => (v <<< 1) ||| bitIf c 0x01
  | .rr => (v >>> 1) ||| bitIf c 0x80
  | .sla => v <<< 1
  | .sra => (v >>> 1) ||| (v &&& 0x80)
  | .sll => (v <<< 1) ||| 0x01
  | .srl => v >>> 1

/-- The displaced bit of a rotate or shift (R172 to R179): bit 7 to the left, bit 0 to the right. -/
def rotCarry (k : RotOp) (v : Byte) : Bool :=
  match k with
  | .rlc | .rl | .sla | .sll => v.getLsbD 7
  | .rrc | .rr | .sra | .srl => v.getLsbD 0

/-- R172 to R179: the result, and the flags `sz53p[r] | cout`. -/
def rot8 (k : RotOp) (v : Byte) (c : Bool) : Byte × Byte :=
  (rotResult k v c, sz53p (rotResult k v c) ||| bitIf (rotCarry k v) 0x01)

/-- The byte with one bit set, `1 << b` (R180). -/
def bitMask (b : BitNo) : Byte := BitVec.ofNat 8 (1 <<< b.num)

/-- R180. -/
def bit8 (b : BitNo) (v xy fOld : Byte) : Byte :=
  let t := v &&& bitMask b
  (fOld &&& 0x01) ||| 0x10 ||| bitIf (t == 0) 0x44 ||| bitIf (b.num == 7 && t != 0) 0x80 ||| (xy &&& 0x28)

/-- R181. -/
def res8 (b : BitNo) (v : Byte) : Byte := v &&& ~~~ (bitMask b)

/-- R182. -/
def set8 (b : BitNo) (v : Byte) : Byte := v ||| bitMask b

/-- The adjustment of DAA (R183). -/
def daaDiff (a fOld : Byte) : Byte :=
  bitIf (flagH fOld || decide ((a &&& 0x0F).toNat > 9)) 0x06 ||| bitIf (flagC fOld || decide (a.toNat > 0x99)) 0x60

/-- R183. -/
def daa8 (a fOld : Byte) : Byte × Byte :=
  let c := flagC fOld || decide (a.toNat > 0x99)
  let p := if flagN fOld then sub8 a (daaDiff a fOld) false else add8 a (daaDiff a fOld) false
  (p.1, sz53 p.1 ||| (p.2 &&& 0x10) ||| parity p.1 ||| (fOld &&& 0x02) ||| bitIf c 0x01)

/-- R184. -/
def blockmoveFlags (a v : Byte) (bcAfter : Word) (fOld : Byte) : Byte :=
  let n := a + v
  (fOld &&& 0xC1) ||| bitIf (bcAfter != 0) 0x04 ||| (n &&& 0x08) ||| bitIf (n.getLsbD 1) 0x20

/-- R185. -/
def blockcmpFlags (a v : Byte) (bcAfter : Word) (fOld : Byte) : Byte :=
  let r := a - v
  let h := hEntry halfcarrySub (r12 r a v 3 7)
  let n := r - (if h != 0 then 1 else 0)
  (fOld &&& 0x01) ||| (r &&& 0x80) ||| bitIf (r == 0) 0x40 ||| h ||| 0x02 ||| bitIf (bcAfter != 0) 0x04
    ||| (n &&& 0x08) ||| bitIf (n.getLsbD 1) 0x20

/-- R186: `k` is an unbounded sum. -/
def blockioFlags (v : Byte) (k : Nat) (bAfter : Byte) : Byte :=
  sz53 bAfter ||| bitIf (v.getLsbD 7) 0x02 ||| bitIf (decide (k > 0xFF)) 0x11
    ||| parity (BitVec.ofNat 8 (k &&& 7) ^^^ bAfter)

end Sys2Proof.Machine
end

