-- ==== Sys2Proof/Machine/Arith16.lean ====
section
/-! DEFINITION. 16-bit arithmetic (44_arith16.md, R300 to R307): the shared operations, then one meaning per
instruction. -/

namespace Sys2Proof.Machine

/-- `ADD HL,ss` (R300): WZ takes the old HL plus one. -/
def addHl (p : Pair) (s : State) : Result :=
  .next ((((s.setWZ (s.hl + 1)).setHL (add16 s.hl (s.pair p) s.f).1).setF (add16 s.hl (s.pair p) s.f).2).finish 1 11)

/-- `ADC HL,ss` (R301). -/
def adcHl (p : Pair) (s : State) : Result :=
  .next ((((s.setWZ (s.hl + 1)).setHL (adc16 s.hl (s.pair p) (flagC s.f)).1).setF
    (adc16 s.hl (s.pair p) (flagC s.f)).2).finish 2 15)

/-- `SBC HL,ss` (R302). -/
def sbcHl (p : Pair) (s : State) : Result :=
  .next ((((s.setWZ (s.hl + 1)).setHL (sbc16 s.hl (s.pair p) (flagC s.f)).1).setF
    (sbc16 s.hl (s.pair p) (flagC s.f)).2).finish 2 15)

/-- `ADD xy,pp` (R303): WZ takes the old index register plus one. -/
def addIndex (x : Index) (p : IndexPair) (s : State) : Result :=
  .next ((((s.setWZ (s.index x + 1)).setIndex x (add16 (s.index x) (s.indexPair x p) s.f).1).setF
    (add16 (s.index x) (s.indexPair x p) s.f).2).finish 2 15)

/-- `INC ss` (R304). -/
def incPair (p : Pair) (s : State) : Result := .next ((s.setPair p (s.pair p + 1)).finish 1 6)

/-- `INC xy` (R305). -/
def incIndex (x : Index) (s : State) : Result := .next ((s.setIndex x (s.index x + 1)).finish 2 10)

/-- `DEC ss` (R306). -/
def decPair (p : Pair) (s : State) : Result := .next ((s.setPair p (s.pair p - 1)).finish 1 6)

/-- `DEC xy` (R307). -/
def decIndex (x : Index) (s : State) : Result := .next ((s.setIndex x (s.index x - 1)).finish 2 10)

/-! ## The meanings -/

/-- INC BC (R304). -/
def execInc_BC (s : State) : Result := incPair .BC s
/-- ADD HL,BC (R300). -/
def execAdd_HL_BC (s : State) : Result := addHl .BC s
/-- DEC BC (R306). -/
def execDec_BC (s : State) : Result := decPair .BC s
/-- INC DE (R304). -/
def execInc_DE (s : State) : Result := incPair .DE s
/-- ADD HL,DE (R300). -/
def execAdd_HL_DE (s : State) : Result := addHl .DE s
/-- DEC DE (R306). -/
def execDec_DE (s : State) : Result := decPair .DE s
/-- INC HL (R304). -/
def execInc_HL (s : State) : Result := incPair .HL s
/-- ADD HL,HL (R300). -/
def execAdd_HL_HL (s : State) : Result := addHl .HL s
/-- DEC HL (R306). -/
def execDec_HL (s : State) : Result := decPair .HL s
/-- INC SP (R304). -/
def execInc_SP (s : State) : Result := incPair .SP s
/-- ADD HL,SP (R300). -/
def execAdd_HL_SP (s : State) : Result := addHl .SP s
/-- DEC SP (R306). -/
def execDec_SP (s : State) : Result := decPair .SP s
/-- SBC HL,BC (R302). -/
def execSbc_HL_BC (s : State) : Result := sbcHl .BC s
/-- ADC HL,BC (R301). -/
def execAdc_HL_BC (s : State) : Result := adcHl .BC s
/-- SBC HL,DE (R302). -/
def execSbc_HL_DE (s : State) : Result := sbcHl .DE s
/-- ADC HL,DE (R301). -/
def execAdc_HL_DE (s : State) : Result := adcHl .DE s
/-- SBC HL,HL (R302). -/
def execSbc_HL_HL (s : State) : Result := sbcHl .HL s
/-- ADC HL,HL (R301). -/
def execAdc_HL_HL (s : State) : Result := adcHl .HL s
/-- SBC HL,SP (R302). -/
def execSbc_HL_SP (s : State) : Result := sbcHl .SP s
/-- ADC HL,SP (R301). -/
def execAdc_HL_SP (s : State) : Result := adcHl .SP s
/-- ADD IX,BC (R303). -/
def execAdd_IX_BC (s : State) : Result := addIndex .IX .BC s
/-- ADD IX,DE (R303). -/
def execAdd_IX_DE (s : State) : Result := addIndex .IX .DE s
/-- INC IX (R305). -/
def execInc_IX (s : State) : Result := incIndex .IX s
/-- ADD IX,IX (R303). -/
def execAdd_IX_IX (s : State) : Result := addIndex .IX .XY s
/-- DEC IX (R307). -/
def execDec_IX (s : State) : Result := decIndex .IX s
/-- ADD IX,SP (R303). -/
def execAdd_IX_SP (s : State) : Result := addIndex .IX .SP s
/-- ADD IY,BC (R303). -/
def execAdd_IY_BC (s : State) : Result := addIndex .IY .BC s
/-- ADD IY,DE (R303). -/
def execAdd_IY_DE (s : State) : Result := addIndex .IY .DE s
/-- INC IY (R305). -/
def execInc_IY (s : State) : Result := incIndex .IY s
/-- ADD IY,IY (R303). -/
def execAdd_IY_IY (s : State) : Result := addIndex .IY .XY s
/-- DEC IY (R307). -/
def execDec_IY (s : State) : Result := decIndex .IY s
/-- ADD IY,SP (R303). -/
def execAdd_IY_SP (s : State) : Result := addIndex .IY .SP s

end Sys2Proof.Machine
end

