-- ==== Sys2Proof/Machine/Arith8.lean ====
section
/-! DEFINITION. 8-bit arithmetic and logic (43_arith8.md, R270 to R289): the shared operations, then one meaning per
instruction. -/

namespace Sys2Proof.Machine

/-- What an ALU operation makes of A, the operand and F: the new A and F (R271 to R278); CP keeps A. -/
def aluResult (op : AluOp) (a v f : Byte) : Byte × Byte :=
  match op with
  | .add => add8 a v false
  | .adc => add8 a v (flagC f)
  | .sub => sub8 a v false
  | .sbc => sub8 a v (flagC f)
  | .and => and8 a v
  | .xor => xor8 a v
  | .or => or8 a v
  | .cp => (a, cp8 a v)

/-- Apply an ALU operation to A and an operand. -/
def State.alu (s : State) (op : AluOp) (v : Byte) : State :=
  s.setAF8 (aluResult op s.a v s.f).1 (aluResult op s.a v s.f).2

/-- An ALU operation on a register (R270). -/
def aluReg (op : AluOp) (r : Reg8) (s : State) : Result := .next ((s.alu op (s.reg r)).finish 1 4)

/-- An ALU operation on `(HL)` (R270). -/
def aluMem (op : AluOp) (s : State) : Result := outcome do
  let v ← s.memRead s.hl
  pure ((s.alu op v).finish 1 7)

/-- An ALU operation on an immediate (R270). -/
def aluImm (op : AluOp) (n : Byte) (s : State) : Result := .next ((s.alu op n).finish 2 7)

/-- An ALU operation on a half of an index register (R270). -/
def aluHalf (op : AluOp) (x : Index) (h : Half) (s : State) : Result := .next ((s.alu op (s.half x h)).finish 2 8)

/-- An ALU operation on `(xy+d)` (R270). -/
def aluIdx (op : AluOp) (x : Index) (d : Byte) (s : State) : Result := outcome do
  let s1 := s.setWZ (s.ea x d)
  let v ← s1.memRead (s.ea x d)
  pure ((s1.alu op v).finish 3 19)

/-- `INC r` (R279). -/
def incReg (r : Reg8) (s : State) : Result :=
  .next (((s.setReg r (inc8 (s.reg r) s.f).1).setF (inc8 (s.reg r) s.f).2).finish 1 4)

/-- `INC xyH` and `INC xyL` (R279). -/
def incHalf (x : Index) (h : Half) (s : State) : Result :=
  .next (((s.setHalf x h (inc8 (s.half x h) s.f).1).setF (inc8 (s.half x h) s.f).2).finish 2 8)

/-- `INC (HL)` (R280). -/
def incMem (s : State) : Result := outcome do
  let v ← s.memRead s.hl
  let s1 ← (s.setF (inc8 v s.f).2).memWrite s.hl (inc8 v s.f).1
  pure (s1.finish 1 11)

/-- `INC (xy+d)` (R281). -/
def incIdx (x : Index) (d : Byte) (s : State) : Result := outcome do
  let s1 := s.setWZ (s.ea x d)
  let v ← s1.memRead (s.ea x d)
  let s2 ← (s1.setF (inc8 v s.f).2).memWrite (s.ea x d) (inc8 v s.f).1
  pure (s2.finish 3 23)

/-- `DEC r` (R282). -/
def decReg (r : Reg8) (s : State) : Result :=
  .next (((s.setReg r (dec8 (s.reg r) s.f).1).setF (dec8 (s.reg r) s.f).2).finish 1 4)

/-- `DEC xyH` and `DEC xyL` (R282). -/
def decHalf (x : Index) (h : Half) (s : State) : Result :=
  .next (((s.setHalf x h (dec8 (s.half x h) s.f).1).setF (dec8 (s.half x h) s.f).2).finish 2 8)

/-- `DEC (HL)` (R283). -/
def decMem (s : State) : Result := outcome do
  let v ← s.memRead s.hl
  let s1 ← (s.setF (dec8 v s.f).2).memWrite s.hl (dec8 v s.f).1
  pure (s1.finish 1 11)

/-- `DEC (xy+d)` (R284). -/
def decIdx (x : Index) (d : Byte) (s : State) : Result := outcome do
  let s1 := s.setWZ (s.ea x d)
  let v ← s1.memRead (s.ea x d)
  let s2 ← (s1.setF (dec8 v s.f).2).memWrite (s.ea x d) (dec8 v s.f).1
  pure (s2.finish 3 23)

/-- The flags of CPL, from the new A (R286). -/
def cplFlags (a fOld : Byte) : Byte := (fOld &&& 0xC5) ||| (a &&& 0x28) ||| 0x12

/-- The flags of CCF (R288): C is complemented, H takes the old C. -/
def ccfFlags (a fOld : Byte) : Byte := (fOld &&& 0xC4) ||| (if flagC fOld then 0x10 else 0x01) ||| (a &&& 0x28)

/-- The flags of SCF (R289). -/
def scfFlags (a fOld : Byte) : Byte := (fOld &&& 0xC4) ||| 0x01 ||| (a &&& 0x28)

/-! ## The meanings -/

/-- `DAA` (R285). -/
def execDaa (s : State) : Result := .next ((s.setAF8 (daa8 s.a s.f).1 (daa8 s.a s.f).2).finish 1 4)

/-- `CPL` (R286). -/
def execCpl (s : State) : Result := .next ((s.setAF8 (s.a ^^^ 0xFF) (cplFlags (s.a ^^^ 0xFF) s.f)).finish 1 4)

/-- `NEG` (R287). -/
def execNeg (s : State) : Result := .next ((s.setAF8 (sub8 0 s.a false).1 (sub8 0 s.a false).2).finish 2 8)

/-- `CCF` (R288). -/
def execCcf (s : State) : Result := .next ((s.setF (ccfFlags s.a s.f)).finish 1 4)

/-- `SCF` (R289). -/
def execScf (s : State) : Result := .next ((s.setF (scfFlags s.a s.f)).finish 1 4)

/-- INC B (R279). -/
def execInc_B (s : State) : Result := incReg .B s
/-- DEC B (R282). -/
def execDec_B (s : State) : Result := decReg .B s
/-- INC C (R279). -/
def execInc_C (s : State) : Result := incReg .C s
/-- DEC C (R282). -/
def execDec_C (s : State) : Result := decReg .C s
/-- INC D (R279). -/
def execInc_D (s : State) : Result := incReg .D s
/-- DEC D (R282). -/
def execDec_D (s : State) : Result := decReg .D s
/-- INC E (R279). -/
def execInc_E (s : State) : Result := incReg .E s
/-- DEC E (R282). -/
def execDec_E (s : State) : Result := decReg .E s
/-- INC H (R279). -/
def execInc_H (s : State) : Result := incReg .H s
/-- DEC H (R282). -/
def execDec_H (s : State) : Result := decReg .H s
/-- INC L (R279). -/
def execInc_L (s : State) : Result := incReg .L s
/-- DEC L (R282). -/
def execDec_L (s : State) : Result := decReg .L s
/-- INC (HL) (R280). -/
def execInc_atHL (s : State) : Result := incMem s
/-- DEC (HL) (R283). -/
def execDec_atHL (s : State) : Result := decMem s
/-- INC A (R279). -/
def execInc_A (s : State) : Result := incReg .A s
/-- DEC A (R282). -/
def execDec_A (s : State) : Result := decReg .A s
/-- ADD A,B (R271). -/
def execAdd_A_B (s : State) : Result := aluReg .add .B s
/-- ADD A,C (R271). -/
def execAdd_A_C (s : State) : Result := aluReg .add .C s
/-- ADD A,D (R271). -/
def execAdd_A_D (s : State) : Result := aluReg .add .D s
/-- ADD A,E (R271). -/
def execAdd_A_E (s : State) : Result := aluReg .add .E s
/-- ADD A,H (R271). -/
def execAdd_A_H (s : State) : Result := aluReg .add .H s
/-- ADD A,L (R271). -/
def execAdd_A_L (s : State) : Result := aluReg .add .L s
/-- ADD A,(HL) (R271). -/
def execAdd_A_atHL (s : State) : Result := aluMem .add s
/-- ADD A,A (R271). -/
def execAdd_A_A (s : State) : Result := aluReg .add .A s
/-- ADC A,B (R272). -/
def execAdc_A_B (s : State) : Result := aluReg .adc .B s
/-- ADC A,C (R272). -/
def execAdc_A_C (s : State) : Result := aluReg .adc .C s
/-- ADC A,D (R272). -/
def execAdc_A_D (s : State) : Result := aluReg .adc .D s
/-- ADC A,E (R272). -/
def execAdc_A_E (s : State) : Result := aluReg .adc .E s
/-- ADC A,H (R272). -/
def execAdc_A_H (s : State) : Result := aluReg .adc .H s
/-- ADC A,L (R272). -/
def execAdc_A_L (s : State) : Result := aluReg .adc .L s
/-- ADC A,(HL) (R272). -/
def execAdc_A_atHL (s : State) : Result := aluMem .adc s
/-- ADC A,A (R272). -/
def execAdc_A_A (s : State) : Result := aluReg .adc .A s
/-- SUB B (R273). -/
def execSub_B (s : State) : Result := aluReg .sub .B s
/-- SUB C (R273). -/
def execSub_C (s : State) : Result := aluReg .sub .C s
/-- SUB D (R273). -/
def execSub_D (s : State) : Result := aluReg .sub .D s
/-- SUB E (R273). -/
def execSub_E (s : State) : Result := aluReg .sub .E s
/-- SUB H (R273). -/
def execSub_H (s : State) : Result := aluReg .sub .H s
/-- SUB L (R273). -/
def execSub_L (s : State) : Result := aluReg .sub .L s
/-- SUB (HL) (R273). -/
def execSub_atHL (s : State) : Result := aluMem .sub s
/-- SUB A (R273). -/
def execSub_A (s : State) : Result := aluReg .sub .A s
/-- SBC A,B (R274). -/
def execSbc_A_B (s : State) : Result := aluReg .sbc .B s
/-- SBC A,C (R274). -/
def execSbc_A_C (s : State) : Result := aluReg .sbc .C s
/-- SBC A,D (R274). -/
def execSbc_A_D (s : State) : Result := aluReg .sbc .D s
/-- SBC A,E (R274). -/
def execSbc_A_E (s : State) : Result := aluReg .sbc .E s
/-- SBC A,H (R274). -/
def execSbc_A_H (s : State) : Result := aluReg .sbc .H s
/-- SBC A,L (R274). -/
def execSbc_A_L (s : State) : Result := aluReg .sbc .L s
/-- SBC A,(HL) (R274). -/
def execSbc_A_atHL (s : State) : Result := aluMem .sbc s
/-- SBC A,A (R274). -/
def execSbc_A_A (s : State) : Result := aluReg .sbc .A s
/-- AND B (R275). -/
def execAnd_B (s : State) : Result := aluReg .and .B s
/-- AND C (R275). -/
def execAnd_C (s : State) : Result := aluReg .and .C s
/-- AND D (R275). -/
def execAnd_D (s : State) : Result := aluReg .and .D s
/-- AND E (R275). -/
def execAnd_E (s : State) : Result := aluReg .and .E s
/-- AND H (R275). -/
def execAnd_H (s : State) : Result := aluReg .and .H s
/-- AND L (R275). -/
def execAnd_L (s : State) : Result := aluReg .and .L s
/-- AND (HL) (R275). -/
def execAnd_atHL (s : State) : Result := aluMem .and s
/-- AND A (R275). -/
def execAnd_A (s : State) : Result := aluReg .and .A s
/-- XOR B (R276). -/
def execXor_B (s : State) : Result := aluReg .xor .B s
/-- XOR C (R276). -/
def execXor_C (s : State) : Result := aluReg .xor .C s
/-- XOR D (R276). -/
def execXor_D (s : State) : Result := aluReg .xor .D s
/-- XOR E (R276). -/
def execXor_E (s : State) : Result := aluReg .xor .E s
/-- XOR H (R276). -/
def execXor_H (s : State) : Result := aluReg .xor .H s
/-- XOR L (R276). -/
def execXor_L (s : State) : Result := aluReg .xor .L s
/-- XOR (HL) (R276). -/
def execXor_atHL (s : State) : Result := aluMem .xor s
/-- XOR A (R276). -/
def execXor_A (s : State) : Result := aluReg .xor .A s
/-- OR B (R277). -/
def execOr_B (s : State) : Result := aluReg .or .B s
/-- OR C (R277). -/
def execOr_C (s : State) : Result := aluReg .or .C s
/-- OR D (R277). -/
def execOr_D (s : State) : Result := aluReg .or .D s
/-- OR E (R277). -/
def execOr_E (s : State) : Result := aluReg .or .E s
/-- OR H (R277). -/
def execOr_H (s : State) : Result := aluReg .or .H s
/-- OR L (R277). -/
def execOr_L (s : State) : Result := aluReg .or .L s
/-- OR (HL) (R277). -/
def execOr_atHL (s : State) : Result := aluMem .or s
/-- OR A (R277). -/
def execOr_A (s : State) : Result := aluReg .or .A s
/-- CP B (R278). -/
def execCp_B (s : State) : Result := aluReg .cp .B s
/-- CP C (R278). -/
def execCp_C (s : State) : Result := aluReg .cp .C s
/-- CP D (R278). -/
def execCp_D (s : State) : Result := aluReg .cp .D s
/-- CP E (R278). -/
def execCp_E (s : State) : Result := aluReg .cp .E s
/-- CP H (R278). -/
def execCp_H (s : State) : Result := aluReg .cp .H s
/-- CP L (R278). -/
def execCp_L (s : State) : Result := aluReg .cp .L s
/-- CP (HL) (R278). -/
def execCp_atHL (s : State) : Result := aluMem .cp s
/-- CP A (R278). -/
def execCp_A (s : State) : Result := aluReg .cp .A s
/-- ADD A,n (R271). -/
def execAdd_A_n (n : Byte) (s : State) : Result := aluImm .add n s
/-- ADC A,n (R272). -/
def execAdc_A_n (n : Byte) (s : State) : Result := aluImm .adc n s
/-- SUB n (R273). -/
def execSub_n (n : Byte) (s : State) : Result := aluImm .sub n s
/-- SBC A,n (R274). -/
def execSbc_A_n (n : Byte) (s : State) : Result := aluImm .sbc n s
/-- AND n (R275). -/
def execAnd_n (n : Byte) (s : State) : Result := aluImm .and n s
/-- XOR n (R276). -/
def execXor_n (n : Byte) (s : State) : Result := aluImm .xor n s
/-- OR n (R277). -/
def execOr_n (n : Byte) (s : State) : Result := aluImm .or n s
/-- CP n (R278). -/
def execCp_n (n : Byte) (s : State) : Result := aluImm .cp n s
/-- INC IXH (R279). -/
def execInc_IXH (s : State) : Result := incHalf .IX .H s
/-- DEC IXH (R282). -/
def execDec_IXH (s : State) : Result := decHalf .IX .H s
/-- INC IXL (R279). -/
def execInc_IXL (s : State) : Result := incHalf .IX .L s
/-- DEC IXL (R282). -/
def execDec_IXL (s : State) : Result := decHalf .IX .L s
/-- INC (IX+d) (R281). -/
def execInc_atIXd (d : Byte) (s : State) : Result := incIdx .IX d s
/-- DEC (IX+d) (R284). -/
def execDec_atIXd (d : Byte) (s : State) : Result := decIdx .IX d s
/-- ADD A,IXH (R271). -/
def execAdd_A_IXH (s : State) : Result := aluHalf .add .IX .H s
/-- ADD A,IXL (R271). -/
def execAdd_A_IXL (s : State) : Result := aluHalf .add .IX .L s
/-- ADD A,(IX+d) (R271). -/
def execAdd_A_atIXd (d : Byte) (s : State) : Result := aluIdx .add .IX d s
/-- ADC A,IXH (R272). -/
def execAdc_A_IXH (s : State) : Result := aluHalf .adc .IX .H s
/-- ADC A,IXL (R272). -/
def execAdc_A_IXL (s : State) : Result := aluHalf .adc .IX .L s
/-- ADC A,(IX+d) (R272). -/
def execAdc_A_atIXd (d : Byte) (s : State) : Result := aluIdx .adc .IX d s
/-- SUB IXH (R273). -/
def execSub_IXH (s : State) : Result := aluHalf .sub .IX .H s
/-- SUB IXL (R273). -/
def execSub_IXL (s : State) : Result := aluHalf .sub .IX .L s
/-- SUB (IX+d) (R273). -/
def execSub_atIXd (d : Byte) (s : State) : Result := aluIdx .sub .IX d s
/-- SBC A,IXH (R274). -/
def execSbc_A_IXH (s : State) : Result := aluHalf .sbc .IX .H s
/-- SBC A,IXL (R274). -/
def execSbc_A_IXL (s : State) : Result := aluHalf .sbc .IX .L s
/-- SBC A,(IX+d) (R274). -/
def execSbc_A_atIXd (d : Byte) (s : State) : Result := aluIdx .sbc .IX d s
/-- AND IXH (R275). -/
def execAnd_IXH (s : State) : Result := aluHalf .and .IX .H s
/-- AND IXL (R275). -/
def execAnd_IXL (s : State) : Result := aluHalf .and .IX .L s
/-- AND (IX+d) (R275). -/
def execAnd_atIXd (d : Byte) (s : State) : Result := aluIdx .and .IX d s
/-- XOR IXH (R276). -/
def execXor_IXH (s : State) : Result := aluHalf .xor .IX .H s
/-- XOR IXL (R276). -/
def execXor_IXL (s : State) : Result := aluHalf .xor .IX .L s
/-- XOR (IX+d) (R276). -/
def execXor_atIXd (d : Byte) (s : State) : Result := aluIdx .xor .IX d s
/-- OR IXH (R277). -/
def execOr_IXH (s : State) : Result := aluHalf .or .IX .H s
/-- OR IXL (R277). -/
def execOr_IXL (s : State) : Result := aluHalf .or .IX .L s
/-- OR (IX+d) (R277). -/
def execOr_atIXd (d : Byte) (s : State) : Result := aluIdx .or .IX d s
/-- CP IXH (R278). -/
def execCp_IXH (s : State) : Result := aluHalf .cp .IX .H s
/-- CP IXL (R278). -/
def execCp_IXL (s : State) : Result := aluHalf .cp .IX .L s
/-- CP (IX+d) (R278). -/
def execCp_atIXd (d : Byte) (s : State) : Result := aluIdx .cp .IX d s
/-- INC IYH (R279). -/
def execInc_IYH (s : State) : Result := incHalf .IY .H s
/-- DEC IYH (R282). -/
def execDec_IYH (s : State) : Result := decHalf .IY .H s
/-- INC IYL (R279). -/
def execInc_IYL (s : State) : Result := incHalf .IY .L s
/-- DEC IYL (R282). -/
def execDec_IYL (s : State) : Result := decHalf .IY .L s
/-- INC (IY+d) (R281). -/
def execInc_atIYd (d : Byte) (s : State) : Result := incIdx .IY d s
/-- DEC (IY+d) (R284). -/
def execDec_atIYd (d : Byte) (s : State) : Result := decIdx .IY d s
/-- ADD A,IYH (R271). -/
def execAdd_A_IYH (s : State) : Result := aluHalf .add .IY .H s
/-- ADD A,IYL (R271). -/
def execAdd_A_IYL (s : State) : Result := aluHalf .add .IY .L s
/-- ADD A,(IY+d) (R271). -/
def execAdd_A_atIYd (d : Byte) (s : State) : Result := aluIdx .add .IY d s
/-- ADC A,IYH (R272). -/
def execAdc_A_IYH (s : State) : Result := aluHalf .adc .IY .H s
/-- ADC A,IYL (R272). -/
def execAdc_A_IYL (s : State) : Result := aluHalf .adc .IY .L s
/-- ADC A,(IY+d) (R272). -/
def execAdc_A_atIYd (d : Byte) (s : State) : Result := aluIdx .adc .IY d s
/-- SUB IYH (R273). -/
def execSub_IYH (s : State) : Result := aluHalf .sub .IY .H s
/-- SUB IYL (R273). -/
def execSub_IYL (s : State) : Result := aluHalf .sub .IY .L s
/-- SUB (IY+d) (R273). -/
def execSub_atIYd (d : Byte) (s : State) : Result := aluIdx .sub .IY d s
/-- SBC A,IYH (R274). -/
def execSbc_A_IYH (s : State) : Result := aluHalf .sbc .IY .H s
/-- SBC A,IYL (R274). -/
def execSbc_A_IYL (s : State) : Result := aluHalf .sbc .IY .L s
/-- SBC A,(IY+d) (R274). -/
def execSbc_A_atIYd (d : Byte) (s : State) : Result := aluIdx .sbc .IY d s
/-- AND IYH (R275). -/
def execAnd_IYH (s : State) : Result := aluHalf .and .IY .H s
/-- AND IYL (R275). -/
def execAnd_IYL (s : State) : Result := aluHalf .and .IY .L s
/-- AND (IY+d) (R275). -/
def execAnd_atIYd (d : Byte) (s : State) : Result := aluIdx .and .IY d s
/-- XOR IYH (R276). -/
def execXor_IYH (s : State) : Result := aluHalf .xor .IY .H s
/-- XOR IYL (R276). -/
def execXor_IYL (s : State) : Result := aluHalf .xor .IY .L s
/-- XOR (IY+d) (R276). -/
def execXor_atIYd (d : Byte) (s : State) : Result := aluIdx .xor .IY d s
/-- OR IYH (R277). -/
def execOr_IYH (s : State) : Result := aluHalf .or .IY .H s
/-- OR IYL (R277). -/
def execOr_IYL (s : State) : Result := aluHalf .or .IY .L s
/-- OR (IY+d) (R277). -/
def execOr_atIYd (d : Byte) (s : State) : Result := aluIdx .or .IY d s
/-- CP IYH (R278). -/
def execCp_IYH (s : State) : Result := aluHalf .cp .IY .H s
/-- CP IYL (R278). -/
def execCp_IYL (s : State) : Result := aluHalf .cp .IY .L s
/-- CP (IY+d) (R278). -/
def execCp_atIYd (d : Byte) (s : State) : Result := aluIdx .cp .IY d s

end Sys2Proof.Machine
end

