-- ==== Sys2Proof/Machine/BitOps.lean ====
section
/-! DEFINITION. BIT, SET and RES (45_rotate_shift_bit.md, R333 to R337): the shared operations, then one meaning per
instruction. -/

namespace Sys2Proof.Machine

/-- `BIT b,r` (R333): X and Y from the register. -/
def bitReg (b : BitNo) (r : Reg8) (s : State) : Result :=
  .next ((s.setF (bit8 b (s.reg r) (s.reg r) s.f)).finish 2 8)

/-- `BIT b,(HL)` (R334): X and Y from the high byte of WZ. -/
def bitMem (b : BitNo) (s : State) : Result := outcome do
  let v ← s.memRead s.hl
  pure ((s.setF (bit8 b v (hi s.wz) s.f)).finish 2 12)

/-- `BIT b,(xy+d)` (R335): X and Y from the high byte of the address. -/
def bitIdx (b : BitNo) (x : Index) (d : Byte) (s : State) : Result := outcome do
  let s1 := s.setWZ (s.ea x d)
  let v ← s1.memRead (s.ea x d)
  pure ((s1.setF (bit8 b v (hi (s.ea x d)) s.f)).finish 4 20)

/-- What SET (`true`) and RES (`false`) make of a byte (R336, R337). -/
def changeBit (set : Bool) (b : BitNo) (v : Byte) : Byte := if set then set8 b v else res8 b v

/-- SET and RES of a register (R336, R337, frame R320). -/
def chgReg (set : Bool) (b : BitNo) (r : Reg8) (s : State) : Result :=
  .next ((s.setReg r (changeBit set b (s.reg r))).finish 2 8)

/-- SET and RES of `(HL)` (R336, R337, frame R320). -/
def chgMem (set : Bool) (b : BitNo) (s : State) : Result := outcome do
  let v ← s.memRead s.hl
  let s1 ← s.memWrite s.hl (changeBit set b v)
  pure (s1.finish 2 15)

/-- SET and RES of `(xy+d)` (R336, R337, frame R340). -/
def chgIdx (set : Bool) (b : BitNo) (x : Index) (d : Byte) (copy : Option Reg8) (s : State) : Result := outcome do
  let s1 := s.setWZ (s.ea x d)
  let v ← s1.memRead (s.ea x d)
  let s2 ← s1.memWrite (s.ea x d) (changeBit set b v)
  pure ((s2.copyTo copy (changeBit set b v)).finish 4 23)

/-! ## The meanings -/

/-- BIT 0,B (R333). -/
def execBit_0_B (s : State) : Result := bitReg .b0 .B s
/-- BIT 0,C (R333). -/
def execBit_0_C (s : State) : Result := bitReg .b0 .C s
/-- BIT 0,D (R333). -/
def execBit_0_D (s : State) : Result := bitReg .b0 .D s
/-- BIT 0,E (R333). -/
def execBit_0_E (s : State) : Result := bitReg .b0 .E s
/-- BIT 0,H (R333). -/
def execBit_0_H (s : State) : Result := bitReg .b0 .H s
/-- BIT 0,L (R333). -/
def execBit_0_L (s : State) : Result := bitReg .b0 .L s
/-- BIT 0,(HL) (R334). -/
def execBit_0_atHL (s : State) : Result := bitMem .b0 s
/-- BIT 0,A (R333). -/
def execBit_0_A (s : State) : Result := bitReg .b0 .A s
/-- BIT 1,B (R333). -/
def execBit_1_B (s : State) : Result := bitReg .b1 .B s
/-- BIT 1,C (R333). -/
def execBit_1_C (s : State) : Result := bitReg .b1 .C s
/-- BIT 1,D (R333). -/
def execBit_1_D (s : State) : Result := bitReg .b1 .D s
/-- BIT 1,E (R333). -/
def execBit_1_E (s : State) : Result := bitReg .b1 .E s
/-- BIT 1,H (R333). -/
def execBit_1_H (s : State) : Result := bitReg .b1 .H s
/-- BIT 1,L (R333). -/
def execBit_1_L (s : State) : Result := bitReg .b1 .L s
/-- BIT 1,(HL) (R334). -/
def execBit_1_atHL (s : State) : Result := bitMem .b1 s
/-- BIT 1,A (R333). -/
def execBit_1_A (s : State) : Result := bitReg .b1 .A s
/-- BIT 2,B (R333). -/
def execBit_2_B (s : State) : Result := bitReg .b2 .B s
/-- BIT 2,C (R333). -/
def execBit_2_C (s : State) : Result := bitReg .b2 .C s
/-- BIT 2,D (R333). -/
def execBit_2_D (s : State) : Result := bitReg .b2 .D s
/-- BIT 2,E (R333). -/
def execBit_2_E (s : State) : Result := bitReg .b2 .E s
/-- BIT 2,H (R333). -/
def execBit_2_H (s : State) : Result := bitReg .b2 .H s
/-- BIT 2,L (R333). -/
def execBit_2_L (s : State) : Result := bitReg .b2 .L s
/-- BIT 2,(HL) (R334). -/
def execBit_2_atHL (s : State) : Result := bitMem .b2 s
/-- BIT 2,A (R333). -/
def execBit_2_A (s : State) : Result := bitReg .b2 .A s
/-- BIT 3,B (R333). -/
def execBit_3_B (s : State) : Result := bitReg .b3 .B s
/-- BIT 3,C (R333). -/
def execBit_3_C (s : State) : Result := bitReg .b3 .C s
/-- BIT 3,D (R333). -/
def execBit_3_D (s : State) : Result := bitReg .b3 .D s
/-- BIT 3,E (R333). -/
def execBit_3_E (s : State) : Result := bitReg .b3 .E s
/-- BIT 3,H (R333). -/
def execBit_3_H (s : State) : Result := bitReg .b3 .H s
/-- BIT 3,L (R333). -/
def execBit_3_L (s : State) : Result := bitReg .b3 .L s
/-- BIT 3,(HL) (R334). -/
def execBit_3_atHL (s : State) : Result := bitMem .b3 s
/-- BIT 3,A (R333). -/
def execBit_3_A (s : State) : Result := bitReg .b3 .A s
/-- BIT 4,B (R333). -/
def execBit_4_B (s : State) : Result := bitReg .b4 .B s
/-- BIT 4,C (R333). -/
def execBit_4_C (s : State) : Result := bitReg .b4 .C s
/-- BIT 4,D (R333). -/
def execBit_4_D (s : State) : Result := bitReg .b4 .D s
/-- BIT 4,E (R333). -/
def execBit_4_E (s : State) : Result := bitReg .b4 .E s
/-- BIT 4,H (R333). -/
def execBit_4_H (s : State) : Result := bitReg .b4 .H s
/-- BIT 4,L (R333). -/
def execBit_4_L (s : State) : Result := bitReg .b4 .L s
/-- BIT 4,(HL) (R334). -/
def execBit_4_atHL (s : State) : Result := bitMem .b4 s
/-- BIT 4,A (R333). -/
def execBit_4_A (s : State) : Result := bitReg .b4 .A s
/-- BIT 5,B (R333). -/
def execBit_5_B (s : State) : Result := bitReg .b5 .B s
/-- BIT 5,C (R333). -/
def execBit_5_C (s : State) : Result := bitReg .b5 .C s
/-- BIT 5,D (R333). -/
def execBit_5_D (s : State) : Result := bitReg .b5 .D s
/-- BIT 5,E (R333). -/
def execBit_5_E (s : State) : Result := bitReg .b5 .E s
/-- BIT 5,H (R333). -/
def execBit_5_H (s : State) : Result := bitReg .b5 .H s
/-- BIT 5,L (R333). -/
def execBit_5_L (s : State) : Result := bitReg .b5 .L s
/-- BIT 5,(HL) (R334). -/
def execBit_5_atHL (s : State) : Result := bitMem .b5 s
/-- BIT 5,A (R333). -/
def execBit_5_A (s : State) : Result := bitReg .b5 .A s
/-- BIT 6,B (R333). -/
def execBit_6_B (s : State) : Result := bitReg .b6 .B s
/-- BIT 6,C (R333). -/
def execBit_6_C (s : State) : Result := bitReg .b6 .C s
/-- BIT 6,D (R333). -/
def execBit_6_D (s : State) : Result := bitReg .b6 .D s
/-- BIT 6,E (R333). -/
def execBit_6_E (s : State) : Result := bitReg .b6 .E s
/-- BIT 6,H (R333). -/
def execBit_6_H (s : State) : Result := bitReg .b6 .H s
/-- BIT 6,L (R333). -/
def execBit_6_L (s : State) : Result := bitReg .b6 .L s
/-- BIT 6,(HL) (R334). -/
def execBit_6_atHL (s : State) : Result := bitMem .b6 s
/-- BIT 6,A (R333). -/
def execBit_6_A (s : State) : Result := bitReg .b6 .A s
/-- BIT 7,B (R333). -/
def execBit_7_B (s : State) : Result := bitReg .b7 .B s
/-- BIT 7,C (R333). -/
def execBit_7_C (s : State) : Result := bitReg .b7 .C s
/-- BIT 7,D (R333). -/
def execBit_7_D (s : State) : Result := bitReg .b7 .D s
/-- BIT 7,E (R333). -/
def execBit_7_E (s : State) : Result := bitReg .b7 .E s
/-- BIT 7,H (R333). -/
def execBit_7_H (s : State) : Result := bitReg .b7 .H s
/-- BIT 7,L (R333). -/
def execBit_7_L (s : State) : Result := bitReg .b7 .L s
/-- BIT 7,(HL) (R334). -/
def execBit_7_atHL (s : State) : Result := bitMem .b7 s
/-- BIT 7,A (R333). -/
def execBit_7_A (s : State) : Result := bitReg .b7 .A s
/-- RES 0,B (R337). -/
def execRes_0_B (s : State) : Result := chgReg false .b0 .B s
/-- RES 0,C (R337). -/
def execRes_0_C (s : State) : Result := chgReg false .b0 .C s
/-- RES 0,D (R337). -/
def execRes_0_D (s : State) : Result := chgReg false .b0 .D s
/-- RES 0,E (R337). -/
def execRes_0_E (s : State) : Result := chgReg false .b0 .E s
/-- RES 0,H (R337). -/
def execRes_0_H (s : State) : Result := chgReg false .b0 .H s
/-- RES 0,L (R337). -/
def execRes_0_L (s : State) : Result := chgReg false .b0 .L s
/-- RES 0,(HL) (R337). -/
def execRes_0_atHL (s : State) : Result := chgMem false .b0 s
/-- RES 0,A (R337). -/
def execRes_0_A (s : State) : Result := chgReg false .b0 .A s
/-- RES 1,B (R337). -/
def execRes_1_B (s : State) : Result := chgReg false .b1 .B s
/-- RES 1,C (R337). -/
def execRes_1_C (s : State) : Result := chgReg false .b1 .C s
/-- RES 1,D (R337). -/
def execRes_1_D (s : State) : Result := chgReg false .b1 .D s
/-- RES 1,E (R337). -/
def execRes_1_E (s : State) : Result := chgReg false .b1 .E s
/-- RES 1,H (R337). -/
def execRes_1_H (s : State) : Result := chgReg false .b1 .H s
/-- RES 1,L (R337). -/
def execRes_1_L (s : State) : Result := chgReg false .b1 .L s
/-- RES 1,(HL) (R337). -/
def execRes_1_atHL (s : State) : Result := chgMem false .b1 s
/-- RES 1,A (R337). -/
def execRes_1_A (s : State) : Result := chgReg false .b1 .A s
/-- RES 2,B (R337). -/
def execRes_2_B (s : State) : Result := chgReg false .b2 .B s
/-- RES 2,C (R337). -/
def execRes_2_C (s : State) : Result := chgReg false .b2 .C s
/-- RES 2,D (R337). -/
def execRes_2_D (s : State) : Result := chgReg false .b2 .D s
/-- RES 2,E (R337). -/
def execRes_2_E (s : State) : Result := chgReg false .b2 .E s
/-- RES 2,H (R337). -/
def execRes_2_H (s : State) : Result := chgReg false .b2 .H s
/-- RES 2,L (R337). -/
def execRes_2_L (s : State) : Result := chgReg false .b2 .L s
/-- RES 2,(HL) (R337). -/
def execRes_2_atHL (s : State) : Result := chgMem false .b2 s
/-- RES 2,A (R337). -/
def execRes_2_A (s : State) : Result := chgReg false .b2 .A s
/-- RES 3,B (R337). -/
def execRes_3_B (s : State) : Result := chgReg false .b3 .B s
/-- RES 3,C (R337). -/
def execRes_3_C (s : State) : Result := chgReg false .b3 .C s
/-- RES 3,D (R337). -/
def execRes_3_D (s : State) : Result := chgReg false .b3 .D s
/-- RES 3,E (R337). -/
def execRes_3_E (s : State) : Result := chgReg false .b3 .E s
/-- RES 3,H (R337). -/
def execRes_3_H (s : State) : Result := chgReg false .b3 .H s
/-- RES 3,L (R337). -/
def execRes_3_L (s : State) : Result := chgReg false .b3 .L s
/-- RES 3,(HL) (R337). -/
def execRes_3_atHL (s : State) : Result := chgMem false .b3 s
/-- RES 3,A (R337). -/
def execRes_3_A (s : State) : Result := chgReg false .b3 .A s
/-- RES 4,B (R337). -/
def execRes_4_B (s : State) : Result := chgReg false .b4 .B s
/-- RES 4,C (R337). -/
def execRes_4_C (s : State) : Result := chgReg false .b4 .C s
/-- RES 4,D (R337). -/
def execRes_4_D (s : State) : Result := chgReg false .b4 .D s
/-- RES 4,E (R337). -/
def execRes_4_E (s : State) : Result := chgReg false .b4 .E s
/-- RES 4,H (R337). -/
def execRes_4_H (s : State) : Result := chgReg false .b4 .H s
/-- RES 4,L (R337). -/
def execRes_4_L (s : State) : Result := chgReg false .b4 .L s
/-- RES 4,(HL) (R337). -/
def execRes_4_atHL (s : State) : Result := chgMem false .b4 s
/-- RES 4,A (R337). -/
def execRes_4_A (s : State) : Result := chgReg false .b4 .A s
/-- RES 5,B (R337). -/
def execRes_5_B (s : State) : Result := chgReg false .b5 .B s
/-- RES 5,C (R337). -/
def execRes_5_C (s : State) : Result := chgReg false .b5 .C s
/-- RES 5,D (R337). -/
def execRes_5_D (s : State) : Result := chgReg false .b5 .D s
/-- RES 5,E (R337). -/
def execRes_5_E (s : State) : Result := chgReg false .b5 .E s
/-- RES 5,H (R337). -/
def execRes_5_H (s : State) : Result := chgReg false .b5 .H s
/-- RES 5,L (R337). -/
def execRes_5_L (s : State) : Result := chgReg false .b5 .L s
/-- RES 5,(HL) (R337). -/
def execRes_5_atHL (s : State) : Result := chgMem false .b5 s
/-- RES 5,A (R337). -/
def execRes_5_A (s : State) : Result := chgReg false .b5 .A s
/-- RES 6,B (R337). -/
def execRes_6_B (s : State) : Result := chgReg false .b6 .B s
/-- RES 6,C (R337). -/
def execRes_6_C (s : State) : Result := chgReg false .b6 .C s
/-- RES 6,D (R337). -/
def execRes_6_D (s : State) : Result := chgReg false .b6 .D s
/-- RES 6,E (R337). -/
def execRes_6_E (s : State) : Result := chgReg false .b6 .E s
/-- RES 6,H (R337). -/
def execRes_6_H (s : State) : Result := chgReg false .b6 .H s
/-- RES 6,L (R337). -/
def execRes_6_L (s : State) : Result := chgReg false .b6 .L s
/-- RES 6,(HL) (R337). -/
def execRes_6_atHL (s : State) : Result := chgMem false .b6 s
/-- RES 6,A (R337). -/
def execRes_6_A (s : State) : Result := chgReg false .b6 .A s
/-- RES 7,B (R337). -/
def execRes_7_B (s : State) : Result := chgReg false .b7 .B s
/-- RES 7,C (R337). -/
def execRes_7_C (s : State) : Result := chgReg false .b7 .C s
/-- RES 7,D (R337). -/
def execRes_7_D (s : State) : Result := chgReg false .b7 .D s
/-- RES 7,E (R337). -/
def execRes_7_E (s : State) : Result := chgReg false .b7 .E s
/-- RES 7,H (R337). -/
def execRes_7_H (s : State) : Result := chgReg false .b7 .H s
/-- RES 7,L (R337). -/
def execRes_7_L (s : State) : Result := chgReg false .b7 .L s
/-- RES 7,(HL) (R337). -/
def execRes_7_atHL (s : State) : Result := chgMem false .b7 s
/-- RES 7,A (R337). -/
def execRes_7_A (s : State) : Result := chgReg false .b7 .A s
/-- SET 0,B (R336). -/
def execSet_0_B (s : State) : Result := chgReg true .b0 .B s
/-- SET 0,C (R336). -/
def execSet_0_C (s : State) : Result := chgReg true .b0 .C s
/-- SET 0,D (R336). -/
def execSet_0_D (s : State) : Result := chgReg true .b0 .D s
/-- SET 0,E (R336). -/
def execSet_0_E (s : State) : Result := chgReg true .b0 .E s
/-- SET 0,H (R336). -/
def execSet_0_H (s : State) : Result := chgReg true .b0 .H s
/-- SET 0,L (R336). -/
def execSet_0_L (s : State) : Result := chgReg true .b0 .L s
/-- SET 0,(HL) (R336). -/
def execSet_0_atHL (s : State) : Result := chgMem true .b0 s
/-- SET 0,A (R336). -/
def execSet_0_A (s : State) : Result := chgReg true .b0 .A s
/-- SET 1,B (R336). -/
def execSet_1_B (s : State) : Result := chgReg true .b1 .B s
/-- SET 1,C (R336). -/
def execSet_1_C (s : State) : Result := chgReg true .b1 .C s
/-- SET 1,D (R336). -/
def execSet_1_D (s : State) : Result := chgReg true .b1 .D s
/-- SET 1,E (R336). -/
def execSet_1_E (s : State) : Result := chgReg true .b1 .E s
/-- SET 1,H (R336). -/
def execSet_1_H (s : State) : Result := chgReg true .b1 .H s
/-- SET 1,L (R336). -/
def execSet_1_L (s : State) : Result := chgReg true .b1 .L s
/-- SET 1,(HL) (R336). -/
def execSet_1_atHL (s : State) : Result := chgMem true .b1 s
/-- SET 1,A (R336). -/
def execSet_1_A (s : State) : Result := chgReg true .b1 .A s
/-- SET 2,B (R336). -/
def execSet_2_B (s : State) : Result := chgReg true .b2 .B s
/-- SET 2,C (R336). -/
def execSet_2_C (s : State) : Result := chgReg true .b2 .C s
/-- SET 2,D (R336). -/
def execSet_2_D (s : State) : Result := chgReg true .b2 .D s
/-- SET 2,E (R336). -/
def execSet_2_E (s : State) : Result := chgReg true .b2 .E s
/-- SET 2,H (R336). -/
def execSet_2_H (s : State) : Result := chgReg true .b2 .H s
/-- SET 2,L (R336). -/
def execSet_2_L (s : State) : Result := chgReg true .b2 .L s
/-- SET 2,(HL) (R336). -/
def execSet_2_atHL (s : State) : Result := chgMem true .b2 s
/-- SET 2,A (R336). -/
def execSet_2_A (s : State) : Result := chgReg true .b2 .A s
/-- SET 3,B (R336). -/
def execSet_3_B (s : State) : Result := chgReg true .b3 .B s
/-- SET 3,C (R336). -/
def execSet_3_C (s : State) : Result := chgReg true .b3 .C s
/-- SET 3,D (R336). -/
def execSet_3_D (s : State) : Result := chgReg true .b3 .D s
/-- SET 3,E (R336). -/
def execSet_3_E (s : State) : Result := chgReg true .b3 .E s
/-- SET 3,H (R336). -/
def execSet_3_H (s : State) : Result := chgReg true .b3 .H s
/-- SET 3,L (R336). -/
def execSet_3_L (s : State) : Result := chgReg true .b3 .L s
/-- SET 3,(HL) (R336). -/
def execSet_3_atHL (s : State) : Result := chgMem true .b3 s
/-- SET 3,A (R336). -/
def execSet_3_A (s : State) : Result := chgReg true .b3 .A s
/-- SET 4,B (R336). -/
def execSet_4_B (s : State) : Result := chgReg true .b4 .B s
/-- SET 4,C (R336). -/
def execSet_4_C (s : State) : Result := chgReg true .b4 .C s
/-- SET 4,D (R336). -/
def execSet_4_D (s : State) : Result := chgReg true .b4 .D s
/-- SET 4,E (R336). -/
def execSet_4_E (s : State) : Result := chgReg true .b4 .E s
/-- SET 4,H (R336). -/
def execSet_4_H (s : State) : Result := chgReg true .b4 .H s
/-- SET 4,L (R336). -/
def execSet_4_L (s : State) : Result := chgReg true .b4 .L s
/-- SET 4,(HL) (R336). -/
def execSet_4_atHL (s : State) : Result := chgMem true .b4 s
/-- SET 4,A (R336). -/
def execSet_4_A (s : State) : Result := chgReg true .b4 .A s
/-- SET 5,B (R336). -/
def execSet_5_B (s : State) : Result := chgReg true .b5 .B s
/-- SET 5,C (R336). -/
def execSet_5_C (s : State) : Result := chgReg true .b5 .C s
/-- SET 5,D (R336). -/
def execSet_5_D (s : State) : Result := chgReg true .b5 .D s
/-- SET 5,E (R336). -/
def execSet_5_E (s : State) : Result := chgReg true .b5 .E s
/-- SET 5,H (R336). -/
def execSet_5_H (s : State) : Result := chgReg true .b5 .H s
/-- SET 5,L (R336). -/
def execSet_5_L (s : State) : Result := chgReg true .b5 .L s
/-- SET 5,(HL) (R336). -/
def execSet_5_atHL (s : State) : Result := chgMem true .b5 s
/-- SET 5,A (R336). -/
def execSet_5_A (s : State) : Result := chgReg true .b5 .A s
/-- SET 6,B (R336). -/
def execSet_6_B (s : State) : Result := chgReg true .b6 .B s
/-- SET 6,C (R336). -/
def execSet_6_C (s : State) : Result := chgReg true .b6 .C s
/-- SET 6,D (R336). -/
def execSet_6_D (s : State) : Result := chgReg true .b6 .D s
/-- SET 6,E (R336). -/
def execSet_6_E (s : State) : Result := chgReg true .b6 .E s
/-- SET 6,H (R336). -/
def execSet_6_H (s : State) : Result := chgReg true .b6 .H s
/-- SET 6,L (R336). -/
def execSet_6_L (s : State) : Result := chgReg true .b6 .L s
/-- SET 6,(HL) (R336). -/
def execSet_6_atHL (s : State) : Result := chgMem true .b6 s
/-- SET 6,A (R336). -/
def execSet_6_A (s : State) : Result := chgReg true .b6 .A s
/-- SET 7,B (R336). -/
def execSet_7_B (s : State) : Result := chgReg true .b7 .B s
/-- SET 7,C (R336). -/
def execSet_7_C (s : State) : Result := chgReg true .b7 .C s
/-- SET 7,D (R336). -/
def execSet_7_D (s : State) : Result := chgReg true .b7 .D s
/-- SET 7,E (R336). -/
def execSet_7_E (s : State) : Result := chgReg true .b7 .E s
/-- SET 7,H (R336). -/
def execSet_7_H (s : State) : Result := chgReg true .b7 .H s
/-- SET 7,L (R336). -/
def execSet_7_L (s : State) : Result := chgReg true .b7 .L s
/-- SET 7,(HL) (R336). -/
def execSet_7_atHL (s : State) : Result := chgMem true .b7 s
/-- SET 7,A (R336). -/
def execSet_7_A (s : State) : Result := chgReg true .b7 .A s
/-- BIT 0,(IX+d) (R335). -/
def execBit_0_atIXd (d : Byte) (_z : BitVec 3) (s : State) : Result := bitIdx .b0 .IX d s
/-- BIT 1,(IX+d) (R335). -/
def execBit_1_atIXd (d : Byte) (_z : BitVec 3) (s : State) : Result := bitIdx .b1 .IX d s
/-- BIT 2,(IX+d) (R335). -/
def execBit_2_atIXd (d : Byte) (_z : BitVec 3) (s : State) : Result := bitIdx .b2 .IX d s
/-- BIT 3,(IX+d) (R335). -/
def execBit_3_atIXd (d : Byte) (_z : BitVec 3) (s : State) : Result := bitIdx .b3 .IX d s
/-- BIT 4,(IX+d) (R335). -/
def execBit_4_atIXd (d : Byte) (_z : BitVec 3) (s : State) : Result := bitIdx .b4 .IX d s
/-- BIT 5,(IX+d) (R335). -/
def execBit_5_atIXd (d : Byte) (_z : BitVec 3) (s : State) : Result := bitIdx .b5 .IX d s
/-- BIT 6,(IX+d) (R335). -/
def execBit_6_atIXd (d : Byte) (_z : BitVec 3) (s : State) : Result := bitIdx .b6 .IX d s
/-- BIT 7,(IX+d) (R335). -/
def execBit_7_atIXd (d : Byte) (_z : BitVec 3) (s : State) : Result := bitIdx .b7 .IX d s
/-- RES 0,(IX+d) -> B (R337). -/
def execRes_0_atIXd_to_B (d : Byte) (s : State) : Result := chgIdx false .b0 .IX d (some .B) s
/-- RES 0,(IX+d) -> C (R337). -/
def execRes_0_atIXd_to_C (d : Byte) (s : State) : Result := chgIdx false .b0 .IX d (some .C) s
/-- RES 0,(IX+d) -> D (R337). -/
def execRes_0_atIXd_to_D (d : Byte) (s : State) : Result := chgIdx false .b0 .IX d (some .D) s
/-- RES 0,(IX+d) -> E (R337). -/
def execRes_0_atIXd_to_E (d : Byte) (s : State) : Result := chgIdx false .b0 .IX d (some .E) s
/-- RES 0,(IX+d) -> H (R337). -/
def execRes_0_atIXd_to_H (d : Byte) (s : State) : Result := chgIdx false .b0 .IX d (some .H) s
/-- RES 0,(IX+d) -> L (R337). -/
def execRes_0_atIXd_to_L (d : Byte) (s : State) : Result := chgIdx false .b0 .IX d (some .L) s
/-- RES 0,(IX+d) (R337). -/
def execRes_0_atIXd (d : Byte) (s : State) : Result := chgIdx false .b0 .IX d none s
/-- RES 0,(IX+d) -> A (R337). -/
def execRes_0_atIXd_to_A (d : Byte) (s : State) : Result := chgIdx false .b0 .IX d (some .A) s
/-- RES 1,(IX+d) -> B (R337). -/
def execRes_1_atIXd_to_B (d : Byte) (s : State) : Result := chgIdx false .b1 .IX d (some .B) s
/-- RES 1,(IX+d) -> C (R337). -/
def execRes_1_atIXd_to_C (d : Byte) (s : State) : Result := chgIdx false .b1 .IX d (some .C) s
/-- RES 1,(IX+d) -> D (R337). -/
def execRes_1_atIXd_to_D (d : Byte) (s : State) : Result := chgIdx false .b1 .IX d (some .D) s
/-- RES 1,(IX+d) -> E (R337). -/
def execRes_1_atIXd_to_E (d : Byte) (s : State) : Result := chgIdx false .b1 .IX d (some .E) s
/-- RES 1,(IX+d) -> H (R337). -/
def execRes_1_atIXd_to_H (d : Byte) (s : State) : Result := chgIdx false .b1 .IX d (some .H) s
/-- RES 1,(IX+d) -> L (R337). -/
def execRes_1_atIXd_to_L (d : Byte) (s : State) : Result := chgIdx false .b1 .IX d (some .L) s
/-- RES 1,(IX+d) (R337). -/
def execRes_1_atIXd (d : Byte) (s : State) : Result := chgIdx false .b1 .IX d none s
/-- RES 1,(IX+d) -> A (R337). -/
def execRes_1_atIXd_to_A (d : Byte) (s : State) : Result := chgIdx false .b1 .IX d (some .A) s
/-- RES 2,(IX+d) -> B (R337). -/
def execRes_2_atIXd_to_B (d : Byte) (s : State) : Result := chgIdx false .b2 .IX d (some .B) s
/-- RES 2,(IX+d) -> C (R337). -/
def execRes_2_atIXd_to_C (d : Byte) (s : State) : Result := chgIdx false .b2 .IX d (some .C) s
/-- RES 2,(IX+d) -> D (R337). -/
def execRes_2_atIXd_to_D (d : Byte) (s : State) : Result := chgIdx false .b2 .IX d (some .D) s
/-- RES 2,(IX+d) -> E (R337). -/
def execRes_2_atIXd_to_E (d : Byte) (s : State) : Result := chgIdx false .b2 .IX d (some .E) s
/-- RES 2,(IX+d) -> H (R337). -/
def execRes_2_atIXd_to_H (d : Byte) (s : State) : Result := chgIdx false .b2 .IX d (some .H) s
/-- RES 2,(IX+d) -> L (R337). -/
def execRes_2_atIXd_to_L (d : Byte) (s : State) : Result := chgIdx false .b2 .IX d (some .L) s
/-- RES 2,(IX+d) (R337). -/
def execRes_2_atIXd (d : Byte) (s : State) : Result := chgIdx false .b2 .IX d none s
/-- RES 2,(IX+d) -> A (R337). -/
def execRes_2_atIXd_to_A (d : Byte) (s : State) : Result := chgIdx false .b2 .IX d (some .A) s
/-- RES 3,(IX+d) -> B (R337). -/
def execRes_3_atIXd_to_B (d : Byte) (s : State) : Result := chgIdx false .b3 .IX d (some .B) s
/-- RES 3,(IX+d) -> C (R337). -/
def execRes_3_atIXd_to_C (d : Byte) (s : State) : Result := chgIdx false .b3 .IX d (some .C) s
/-- RES 3,(IX+d) -> D (R337). -/
def execRes_3_atIXd_to_D (d : Byte) (s : State) : Result := chgIdx false .b3 .IX d (some .D) s
/-- RES 3,(IX+d) -> E (R337). -/
def execRes_3_atIXd_to_E (d : Byte) (s : State) : Result := chgIdx false .b3 .IX d (some .E) s
/-- RES 3,(IX+d) -> H (R337). -/
def execRes_3_atIXd_to_H (d : Byte) (s : State) : Result := chgIdx false .b3 .IX d (some .H) s
/-- RES 3,(IX+d) -> L (R337). -/
def execRes_3_atIXd_to_L (d : Byte) (s : State) : Result := chgIdx false .b3 .IX d (some .L) s
/-- RES 3,(IX+d) (R337). -/
def execRes_3_atIXd (d : Byte) (s : State) : Result := chgIdx false .b3 .IX d none s
/-- RES 3,(IX+d) -> A (R337). -/
def execRes_3_atIXd_to_A (d : Byte) (s : State) : Result := chgIdx false .b3 .IX d (some .A) s
/-- RES 4,(IX+d) -> B (R337). -/
def execRes_4_atIXd_to_B (d : Byte) (s : State) : Result := chgIdx false .b4 .IX d (some .B) s
/-- RES 4,(IX+d) -> C (R337). -/
def execRes_4_atIXd_to_C (d : Byte) (s : State) : Result := chgIdx false .b4 .IX d (some .C) s
/-- RES 4,(IX+d) -> D (R337). -/
def execRes_4_atIXd_to_D (d : Byte) (s : State) : Result := chgIdx false .b4 .IX d (some .D) s
/-- RES 4,(IX+d) -> E (R337). -/
def execRes_4_atIXd_to_E (d : Byte) (s : State) : Result := chgIdx false .b4 .IX d (some .E) s
/-- RES 4,(IX+d) -> H (R337). -/
def execRes_4_atIXd_to_H (d : Byte) (s : State) : Result := chgIdx false .b4 .IX d (some .H) s
/-- RES 4,(IX+d) -> L (R337). -/
def execRes_4_atIXd_to_L (d : Byte) (s : State) : Result := chgIdx false .b4 .IX d (some .L) s
/-- RES 4,(IX+d) (R337). -/
def execRes_4_atIXd (d : Byte) (s : State) : Result := chgIdx false .b4 .IX d none s
/-- RES 4,(IX+d) -> A (R337). -/
def execRes_4_atIXd_to_A (d : Byte) (s : State) : Result := chgIdx false .b4 .IX d (some .A) s
/-- RES 5,(IX+d) -> B (R337). -/
def execRes_5_atIXd_to_B (d : Byte) (s : State) : Result := chgIdx false .b5 .IX d (some .B) s
/-- RES 5,(IX+d) -> C (R337). -/
def execRes_5_atIXd_to_C (d : Byte) (s : State) : Result := chgIdx false .b5 .IX d (some .C) s
/-- RES 5,(IX+d) -> D (R337). -/
def execRes_5_atIXd_to_D (d : Byte) (s : State) : Result := chgIdx false .b5 .IX d (some .D) s
/-- RES 5,(IX+d) -> E (R337). -/
def execRes_5_atIXd_to_E (d : Byte) (s : State) : Result := chgIdx false .b5 .IX d (some .E) s
/-- RES 5,(IX+d) -> H (R337). -/
def execRes_5_atIXd_to_H (d : Byte) (s : State) : Result := chgIdx false .b5 .IX d (some .H) s
/-- RES 5,(IX+d) -> L (R337). -/
def execRes_5_atIXd_to_L (d : Byte) (s : State) : Result := chgIdx false .b5 .IX d (some .L) s
/-- RES 5,(IX+d) (R337). -/
def execRes_5_atIXd (d : Byte) (s : State) : Result := chgIdx false .b5 .IX d none s
/-- RES 5,(IX+d) -> A (R337). -/
def execRes_5_atIXd_to_A (d : Byte) (s : State) : Result := chgIdx false .b5 .IX d (some .A) s
/-- RES 6,(IX+d) -> B (R337). -/
def execRes_6_atIXd_to_B (d : Byte) (s : State) : Result := chgIdx false .b6 .IX d (some .B) s
/-- RES 6,(IX+d) -> C (R337). -/
def execRes_6_atIXd_to_C (d : Byte) (s : State) : Result := chgIdx false .b6 .IX d (some .C) s
/-- RES 6,(IX+d) -> D (R337). -/
def execRes_6_atIXd_to_D (d : Byte) (s : State) : Result := chgIdx false .b6 .IX d (some .D) s
/-- RES 6,(IX+d) -> E (R337). -/
def execRes_6_atIXd_to_E (d : Byte) (s : State) : Result := chgIdx false .b6 .IX d (some .E) s
/-- RES 6,(IX+d) -> H (R337). -/
def execRes_6_atIXd_to_H (d : Byte) (s : State) : Result := chgIdx false .b6 .IX d (some .H) s
/-- RES 6,(IX+d) -> L (R337). -/
def execRes_6_atIXd_to_L (d : Byte) (s : State) : Result := chgIdx false .b6 .IX d (some .L) s
/-- RES 6,(IX+d) (R337). -/
def execRes_6_atIXd (d : Byte) (s : State) : Result := chgIdx false .b6 .IX d none s
/-- RES 6,(IX+d) -> A (R337). -/
def execRes_6_atIXd_to_A (d : Byte) (s : State) : Result := chgIdx false .b6 .IX d (some .A) s
/-- RES 7,(IX+d) -> B (R337). -/
def execRes_7_atIXd_to_B (d : Byte) (s : State) : Result := chgIdx false .b7 .IX d (some .B) s
/-- RES 7,(IX+d) -> C (R337). -/
def execRes_7_atIXd_to_C (d : Byte) (s : State) : Result := chgIdx false .b7 .IX d (some .C) s
/-- RES 7,(IX+d) -> D (R337). -/
def execRes_7_atIXd_to_D (d : Byte) (s : State) : Result := chgIdx false .b7 .IX d (some .D) s
/-- RES 7,(IX+d) -> E (R337). -/
def execRes_7_atIXd_to_E (d : Byte) (s : State) : Result := chgIdx false .b7 .IX d (some .E) s
/-- RES 7,(IX+d) -> H (R337). -/
def execRes_7_atIXd_to_H (d : Byte) (s : State) : Result := chgIdx false .b7 .IX d (some .H) s
/-- RES 7,(IX+d) -> L (R337). -/
def execRes_7_atIXd_to_L (d : Byte) (s : State) : Result := chgIdx false .b7 .IX d (some .L) s
/-- RES 7,(IX+d) (R337). -/
def execRes_7_atIXd (d : Byte) (s : State) : Result := chgIdx false .b7 .IX d none s
/-- RES 7,(IX+d) -> A (R337). -/
def execRes_7_atIXd_to_A (d : Byte) (s : State) : Result := chgIdx false .b7 .IX d (some .A) s
/-- SET 0,(IX+d) -> B (R336). -/
def execSet_0_atIXd_to_B (d : Byte) (s : State) : Result := chgIdx true .b0 .IX d (some .B) s
/-- SET 0,(IX+d) -> C (R336). -/
def execSet_0_atIXd_to_C (d : Byte) (s : State) : Result := chgIdx true .b0 .IX d (some .C) s
/-- SET 0,(IX+d) -> D (R336). -/
def execSet_0_atIXd_to_D (d : Byte) (s : State) : Result := chgIdx true .b0 .IX d (some .D) s
/-- SET 0,(IX+d) -> E (R336). -/
def execSet_0_atIXd_to_E (d : Byte) (s : State) : Result := chgIdx true .b0 .IX d (some .E) s
/-- SET 0,(IX+d) -> H (R336). -/
def execSet_0_atIXd_to_H (d : Byte) (s : State) : Result := chgIdx true .b0 .IX d (some .H) s
/-- SET 0,(IX+d) -> L (R336). -/
def execSet_0_atIXd_to_L (d : Byte) (s : State) : Result := chgIdx true .b0 .IX d (some .L) s
/-- SET 0,(IX+d) (R336). -/
def execSet_0_atIXd (d : Byte) (s : State) : Result := chgIdx true .b0 .IX d none s
/-- SET 0,(IX+d) -> A (R336). -/
def execSet_0_atIXd_to_A (d : Byte) (s : State) : Result := chgIdx true .b0 .IX d (some .A) s
/-- SET 1,(IX+d) -> B (R336). -/
def execSet_1_atIXd_to_B (d : Byte) (s : State) : Result := chgIdx true .b1 .IX d (some .B) s
/-- SET 1,(IX+d) -> C (R336). -/
def execSet_1_atIXd_to_C (d : Byte) (s : State) : Result := chgIdx true .b1 .IX d (some .C) s
/-- SET 1,(IX+d) -> D (R336). -/
def execSet_1_atIXd_to_D (d : Byte) (s : State) : Result := chgIdx true .b1 .IX d (some .D) s
/-- SET 1,(IX+d) -> E (R336). -/
def execSet_1_atIXd_to_E (d : Byte) (s : State) : Result := chgIdx true .b1 .IX d (some .E) s
/-- SET 1,(IX+d) -> H (R336). -/
def execSet_1_atIXd_to_H (d : Byte) (s : State) : Result := chgIdx true .b1 .IX d (some .H) s
/-- SET 1,(IX+d) -> L (R336). -/
def execSet_1_atIXd_to_L (d : Byte) (s : State) : Result := chgIdx true .b1 .IX d (some .L) s
/-- SET 1,(IX+d) (R336). -/
def execSet_1_atIXd (d : Byte) (s : State) : Result := chgIdx true .b1 .IX d none s
/-- SET 1,(IX+d) -> A (R336). -/
def execSet_1_atIXd_to_A (d : Byte) (s : State) : Result := chgIdx true .b1 .IX d (some .A) s
/-- SET 2,(IX+d) -> B (R336). -/
def execSet_2_atIXd_to_B (d : Byte) (s : State) : Result := chgIdx true .b2 .IX d (some .B) s
/-- SET 2,(IX+d) -> C (R336). -/
def execSet_2_atIXd_to_C (d : Byte) (s : State) : Result := chgIdx true .b2 .IX d (some .C) s
/-- SET 2,(IX+d) -> D (R336). -/
def execSet_2_atIXd_to_D (d : Byte) (s : State) : Result := chgIdx true .b2 .IX d (some .D) s
/-- SET 2,(IX+d) -> E (R336). -/
def execSet_2_atIXd_to_E (d : Byte) (s : State) : Result := chgIdx true .b2 .IX d (some .E) s
/-- SET 2,(IX+d) -> H (R336). -/
def execSet_2_atIXd_to_H (d : Byte) (s : State) : Result := chgIdx true .b2 .IX d (some .H) s
/-- SET 2,(IX+d) -> L (R336). -/
def execSet_2_atIXd_to_L (d : Byte) (s : State) : Result := chgIdx true .b2 .IX d (some .L) s
/-- SET 2,(IX+d) (R336). -/
def execSet_2_atIXd (d : Byte) (s : State) : Result := chgIdx true .b2 .IX d none s
/-- SET 2,(IX+d) -> A (R336). -/
def execSet_2_atIXd_to_A (d : Byte) (s : State) : Result := chgIdx true .b2 .IX d (some .A) s
/-- SET 3,(IX+d) -> B (R336). -/
def execSet_3_atIXd_to_B (d : Byte) (s : State) : Result := chgIdx true .b3 .IX d (some .B) s
/-- SET 3,(IX+d) -> C (R336). -/
def execSet_3_atIXd_to_C (d : Byte) (s : State) : Result := chgIdx true .b3 .IX d (some .C) s
/-- SET 3,(IX+d) -> D (R336). -/
def execSet_3_atIXd_to_D (d : Byte) (s : State) : Result := chgIdx true .b3 .IX d (some .D) s
/-- SET 3,(IX+d) -> E (R336). -/
def execSet_3_atIXd_to_E (d : Byte) (s : State) : Result := chgIdx true .b3 .IX d (some .E) s
/-- SET 3,(IX+d) -> H (R336). -/
def execSet_3_atIXd_to_H (d : Byte) (s : State) : Result := chgIdx true .b3 .IX d (some .H) s
/-- SET 3,(IX+d) -> L (R336). -/
def execSet_3_atIXd_to_L (d : Byte) (s : State) : Result := chgIdx true .b3 .IX d (some .L) s
/-- SET 3,(IX+d) (R336). -/
def execSet_3_atIXd (d : Byte) (s : State) : Result := chgIdx true .b3 .IX d none s
/-- SET 3,(IX+d) -> A (R336). -/
def execSet_3_atIXd_to_A (d : Byte) (s : State) : Result := chgIdx true .b3 .IX d (some .A) s
/-- SET 4,(IX+d) -> B (R336). -/
def execSet_4_atIXd_to_B (d : Byte) (s : State) : Result := chgIdx true .b4 .IX d (some .B) s
/-- SET 4,(IX+d) -> C (R336). -/
def execSet_4_atIXd_to_C (d : Byte) (s : State) : Result := chgIdx true .b4 .IX d (some .C) s
/-- SET 4,(IX+d) -> D (R336). -/
def execSet_4_atIXd_to_D (d : Byte) (s : State) : Result := chgIdx true .b4 .IX d (some .D) s
/-- SET 4,(IX+d) -> E (R336). -/
def execSet_4_atIXd_to_E (d : Byte) (s : State) : Result := chgIdx true .b4 .IX d (some .E) s
/-- SET 4,(IX+d) -> H (R336). -/
def execSet_4_atIXd_to_H (d : Byte) (s : State) : Result := chgIdx true .b4 .IX d (some .H) s
/-- SET 4,(IX+d) -> L (R336). -/
def execSet_4_atIXd_to_L (d : Byte) (s : State) : Result := chgIdx true .b4 .IX d (some .L) s
/-- SET 4,(IX+d) (R336). -/
def execSet_4_atIXd (d : Byte) (s : State) : Result := chgIdx true .b4 .IX d none s
/-- SET 4,(IX+d) -> A (R336). -/
def execSet_4_atIXd_to_A (d : Byte) (s : State) : Result := chgIdx true .b4 .IX d (some .A) s
/-- SET 5,(IX+d) -> B (R336). -/
def execSet_5_atIXd_to_B (d : Byte) (s : State) : Result := chgIdx true .b5 .IX d (some .B) s
/-- SET 5,(IX+d) -> C (R336). -/
def execSet_5_atIXd_to_C (d : Byte) (s : State) : Result := chgIdx true .b5 .IX d (some .C) s
/-- SET 5,(IX+d) -> D (R336). -/
def execSet_5_atIXd_to_D (d : Byte) (s : State) : Result := chgIdx true .b5 .IX d (some .D) s
/-- SET 5,(IX+d) -> E (R336). -/
def execSet_5_atIXd_to_E (d : Byte) (s : State) : Result := chgIdx true .b5 .IX d (some .E) s
/-- SET 5,(IX+d) -> H (R336). -/
def execSet_5_atIXd_to_H (d : Byte) (s : State) : Result := chgIdx true .b5 .IX d (some .H) s
/-- SET 5,(IX+d) -> L (R336). -/
def execSet_5_atIXd_to_L (d : Byte) (s : State) : Result := chgIdx true .b5 .IX d (some .L) s
/-- SET 5,(IX+d) (R336). -/
def execSet_5_atIXd (d : Byte) (s : State) : Result := chgIdx true .b5 .IX d none s
/-- SET 5,(IX+d) -> A (R336). -/
def execSet_5_atIXd_to_A (d : Byte) (s : State) : Result := chgIdx true .b5 .IX d (some .A) s
/-- SET 6,(IX+d) -> B (R336). -/
def execSet_6_atIXd_to_B (d : Byte) (s : State) : Result := chgIdx true .b6 .IX d (some .B) s
/-- SET 6,(IX+d) -> C (R336). -/
def execSet_6_atIXd_to_C (d : Byte) (s : State) : Result := chgIdx true .b6 .IX d (some .C) s
/-- SET 6,(IX+d) -> D (R336). -/
def execSet_6_atIXd_to_D (d : Byte) (s : State) : Result := chgIdx true .b6 .IX d (some .D) s
/-- SET 6,(IX+d) -> E (R336). -/
def execSet_6_atIXd_to_E (d : Byte) (s : State) : Result := chgIdx true .b6 .IX d (some .E) s
/-- SET 6,(IX+d) -> H (R336). -/
def execSet_6_atIXd_to_H (d : Byte) (s : State) : Result := chgIdx true .b6 .IX d (some .H) s
/-- SET 6,(IX+d) -> L (R336). -/
def execSet_6_atIXd_to_L (d : Byte) (s : State) : Result := chgIdx true .b6 .IX d (some .L) s
/-- SET 6,(IX+d) (R336). -/
def execSet_6_atIXd (d : Byte) (s : State) : Result := chgIdx true .b6 .IX d none s
/-- SET 6,(IX+d) -> A (R336). -/
def execSet_6_atIXd_to_A (d : Byte) (s : State) : Result := chgIdx true .b6 .IX d (some .A) s
/-- SET 7,(IX+d) -> B (R336). -/
def execSet_7_atIXd_to_B (d : Byte) (s : State) : Result := chgIdx true .b7 .IX d (some .B) s
/-- SET 7,(IX+d) -> C (R336). -/
def execSet_7_atIXd_to_C (d : Byte) (s : State) : Result := chgIdx true .b7 .IX d (some .C) s
/-- SET 7,(IX+d) -> D (R336). -/
def execSet_7_atIXd_to_D (d : Byte) (s : State) : Result := chgIdx true .b7 .IX d (some .D) s
/-- SET 7,(IX+d) -> E (R336). -/
def execSet_7_atIXd_to_E (d : Byte) (s : State) : Result := chgIdx true .b7 .IX d (some .E) s
/-- SET 7,(IX+d) -> H (R336). -/
def execSet_7_atIXd_to_H (d : Byte) (s : State) : Result := chgIdx true .b7 .IX d (some .H) s
/-- SET 7,(IX+d) -> L (R336). -/
def execSet_7_atIXd_to_L (d : Byte) (s : State) : Result := chgIdx true .b7 .IX d (some .L) s
/-- SET 7,(IX+d) (R336). -/
def execSet_7_atIXd (d : Byte) (s : State) : Result := chgIdx true .b7 .IX d none s
/-- SET 7,(IX+d) -> A (R336). -/
def execSet_7_atIXd_to_A (d : Byte) (s : State) : Result := chgIdx true .b7 .IX d (some .A) s
/-- BIT 0,(IY+d) (R335). -/
def execBit_0_atIYd (d : Byte) (_z : BitVec 3) (s : State) : Result := bitIdx .b0 .IY d s
/-- BIT 1,(IY+d) (R335). -/
def execBit_1_atIYd (d : Byte) (_z : BitVec 3) (s : State) : Result := bitIdx .b1 .IY d s
/-- BIT 2,(IY+d) (R335). -/
def execBit_2_atIYd (d : Byte) (_z : BitVec 3) (s : State) : Result := bitIdx .b2 .IY d s
/-- BIT 3,(IY+d) (R335). -/
def execBit_3_atIYd (d : Byte) (_z : BitVec 3) (s : State) : Result := bitIdx .b3 .IY d s
/-- BIT 4,(IY+d) (R335). -/
def execBit_4_atIYd (d : Byte) (_z : BitVec 3) (s : State) : Result := bitIdx .b4 .IY d s
/-- BIT 5,(IY+d) (R335). -/
def execBit_5_atIYd (d : Byte) (_z : BitVec 3) (s : State) : Result := bitIdx .b5 .IY d s
/-- BIT 6,(IY+d) (R335). -/
def execBit_6_atIYd (d : Byte) (_z : BitVec 3) (s : State) : Result := bitIdx .b6 .IY d s
/-- BIT 7,(IY+d) (R335). -/
def execBit_7_atIYd (d : Byte) (_z : BitVec 3) (s : State) : Result := bitIdx .b7 .IY d s
/-- RES 0,(IY+d) -> B (R337). -/
def execRes_0_atIYd_to_B (d : Byte) (s : State) : Result := chgIdx false .b0 .IY d (some .B) s
/-- RES 0,(IY+d) -> C (R337). -/
def execRes_0_atIYd_to_C (d : Byte) (s : State) : Result := chgIdx false .b0 .IY d (some .C) s
/-- RES 0,(IY+d) -> D (R337). -/
def execRes_0_atIYd_to_D (d : Byte) (s : State) : Result := chgIdx false .b0 .IY d (some .D) s
/-- RES 0,(IY+d) -> E (R337). -/
def execRes_0_atIYd_to_E (d : Byte) (s : State) : Result := chgIdx false .b0 .IY d (some .E) s
/-- RES 0,(IY+d) -> H (R337). -/
def execRes_0_atIYd_to_H (d : Byte) (s : State) : Result := chgIdx false .b0 .IY d (some .H) s
/-- RES 0,(IY+d) -> L (R337). -/
def execRes_0_atIYd_to_L (d : Byte) (s : State) : Result := chgIdx false .b0 .IY d (some .L) s
/-- RES 0,(IY+d) (R337). -/
def execRes_0_atIYd (d : Byte) (s : State) : Result := chgIdx false .b0 .IY d none s
/-- RES 0,(IY+d) -> A (R337). -/
def execRes_0_atIYd_to_A (d : Byte) (s : State) : Result := chgIdx false .b0 .IY d (some .A) s
/-- RES 1,(IY+d) -> B (R337). -/
def execRes_1_atIYd_to_B (d : Byte) (s : State) : Result := chgIdx false .b1 .IY d (some .B) s
/-- RES 1,(IY+d) -> C (R337). -/
def execRes_1_atIYd_to_C (d : Byte) (s : State) : Result := chgIdx false .b1 .IY d (some .C) s
/-- RES 1,(IY+d) -> D (R337). -/
def execRes_1_atIYd_to_D (d : Byte) (s : State) : Result := chgIdx false .b1 .IY d (some .D) s
/-- RES 1,(IY+d) -> E (R337). -/
def execRes_1_atIYd_to_E (d : Byte) (s : State) : Result := chgIdx false .b1 .IY d (some .E) s
/-- RES 1,(IY+d) -> H (R337). -/
def execRes_1_atIYd_to_H (d : Byte) (s : State) : Result := chgIdx false .b1 .IY d (some .H) s
/-- RES 1,(IY+d) -> L (R337). -/
def execRes_1_atIYd_to_L (d : Byte) (s : State) : Result := chgIdx false .b1 .IY d (some .L) s
/-- RES 1,(IY+d) (R337). -/
def execRes_1_atIYd (d : Byte) (s : State) : Result := chgIdx false .b1 .IY d none s
/-- RES 1,(IY+d) -> A (R337). -/
def execRes_1_atIYd_to_A (d : Byte) (s : State) : Result := chgIdx false .b1 .IY d (some .A) s
/-- RES 2,(IY+d) -> B (R337). -/
def execRes_2_atIYd_to_B (d : Byte) (s : State) : Result := chgIdx false .b2 .IY d (some .B) s
/-- RES 2,(IY+d) -> C (R337). -/
def execRes_2_atIYd_to_C (d : Byte) (s : State) : Result := chgIdx false .b2 .IY d (some .C) s
/-- RES 2,(IY+d) -> D (R337). -/
def execRes_2_atIYd_to_D (d : Byte) (s : State) : Result := chgIdx false .b2 .IY d (some .D) s
/-- RES 2,(IY+d) -> E (R337). -/
def execRes_2_atIYd_to_E (d : Byte) (s : State) : Result := chgIdx false .b2 .IY d (some .E) s
/-- RES 2,(IY+d) -> H (R337). -/
def execRes_2_atIYd_to_H (d : Byte) (s : State) : Result := chgIdx false .b2 .IY d (some .H) s
/-- RES 2,(IY+d) -> L (R337). -/
def execRes_2_atIYd_to_L (d : Byte) (s : State) : Result := chgIdx false .b2 .IY d (some .L) s
/-- RES 2,(IY+d) (R337). -/
def execRes_2_atIYd (d : Byte) (s : State) : Result := chgIdx false .b2 .IY d none s
/-- RES 2,(IY+d) -> A (R337). -/
def execRes_2_atIYd_to_A (d : Byte) (s : State) : Result := chgIdx false .b2 .IY d (some .A) s
/-- RES 3,(IY+d) -> B (R337). -/
def execRes_3_atIYd_to_B (d : Byte) (s : State) : Result := chgIdx false .b3 .IY d (some .B) s
/-- RES 3,(IY+d) -> C (R337). -/
def execRes_3_atIYd_to_C (d : Byte) (s : State) : Result := chgIdx false .b3 .IY d (some .C) s
/-- RES 3,(IY+d) -> D (R337). -/
def execRes_3_atIYd_to_D (d : Byte) (s : State) : Result := chgIdx false .b3 .IY d (some .D) s
/-- RES 3,(IY+d) -> E (R337). -/
def execRes_3_atIYd_to_E (d : Byte) (s : State) : Result := chgIdx false .b3 .IY d (some .E) s
/-- RES 3,(IY+d) -> H (R337). -/
def execRes_3_atIYd_to_H (d : Byte) (s : State) : Result := chgIdx false .b3 .IY d (some .H) s
/-- RES 3,(IY+d) -> L (R337). -/
def execRes_3_atIYd_to_L (d : Byte) (s : State) : Result := chgIdx false .b3 .IY d (some .L) s
/-- RES 3,(IY+d) (R337). -/
def execRes_3_atIYd (d : Byte) (s : State) : Result := chgIdx false .b3 .IY d none s
/-- RES 3,(IY+d) -> A (R337). -/
def execRes_3_atIYd_to_A (d : Byte) (s : State) : Result := chgIdx false .b3 .IY d (some .A) s
/-- RES 4,(IY+d) -> B (R337). -/
def execRes_4_atIYd_to_B (d : Byte) (s : State) : Result := chgIdx false .b4 .IY d (some .B) s
/-- RES 4,(IY+d) -> C (R337). -/
def execRes_4_atIYd_to_C (d : Byte) (s : State) : Result := chgIdx false .b4 .IY d (some .C) s
/-- RES 4,(IY+d) -> D (R337). -/
def execRes_4_atIYd_to_D (d : Byte) (s : State) : Result := chgIdx false .b4 .IY d (some .D) s
/-- RES 4,(IY+d) -> E (R337). -/
def execRes_4_atIYd_to_E (d : Byte) (s : State) : Result := chgIdx false .b4 .IY d (some .E) s
/-- RES 4,(IY+d) -> H (R337). -/
def execRes_4_atIYd_to_H (d : Byte) (s : State) : Result := chgIdx false .b4 .IY d (some .H) s
/-- RES 4,(IY+d) -> L (R337). -/
def execRes_4_atIYd_to_L (d : Byte) (s : State) : Result := chgIdx false .b4 .IY d (some .L) s
/-- RES 4,(IY+d) (R337). -/
def execRes_4_atIYd (d : Byte) (s : State) : Result := chgIdx false .b4 .IY d none s
/-- RES 4,(IY+d) -> A (R337). -/
def execRes_4_atIYd_to_A (d : Byte) (s : State) : Result := chgIdx false .b4 .IY d (some .A) s
/-- RES 5,(IY+d) -> B (R337). -/
def execRes_5_atIYd_to_B (d : Byte) (s : State) : Result := chgIdx false .b5 .IY d (some .B) s
/-- RES 5,(IY+d) -> C (R337). -/
def execRes_5_atIYd_to_C (d : Byte) (s : State) : Result := chgIdx false .b5 .IY d (some .C) s
/-- RES 5,(IY+d) -> D (R337). -/
def execRes_5_atIYd_to_D (d : Byte) (s : State) : Result := chgIdx false .b5 .IY d (some .D) s
/-- RES 5,(IY+d) -> E (R337). -/
def execRes_5_atIYd_to_E (d : Byte) (s : State) : Result := chgIdx false .b5 .IY d (some .E) s
/-- RES 5,(IY+d) -> H (R337). -/
def execRes_5_atIYd_to_H (d : Byte) (s : State) : Result := chgIdx false .b5 .IY d (some .H) s
/-- RES 5,(IY+d) -> L (R337). -/
def execRes_5_atIYd_to_L (d : Byte) (s : State) : Result := chgIdx false .b5 .IY d (some .L) s
/-- RES 5,(IY+d) (R337). -/
def execRes_5_atIYd (d : Byte) (s : State) : Result := chgIdx false .b5 .IY d none s
/-- RES 5,(IY+d) -> A (R337). -/
def execRes_5_atIYd_to_A (d : Byte) (s : State) : Result := chgIdx false .b5 .IY d (some .A) s
/-- RES 6,(IY+d) -> B (R337). -/
def execRes_6_atIYd_to_B (d : Byte) (s : State) : Result := chgIdx false .b6 .IY d (some .B) s
/-- RES 6,(IY+d) -> C (R337). -/
def execRes_6_atIYd_to_C (d : Byte) (s : State) : Result := chgIdx false .b6 .IY d (some .C) s
/-- RES 6,(IY+d) -> D (R337). -/
def execRes_6_atIYd_to_D (d : Byte) (s : State) : Result := chgIdx false .b6 .IY d (some .D) s
/-- RES 6,(IY+d) -> E (R337). -/
def execRes_6_atIYd_to_E (d : Byte) (s : State) : Result := chgIdx false .b6 .IY d (some .E) s
/-- RES 6,(IY+d) -> H (R337). -/
def execRes_6_atIYd_to_H (d : Byte) (s : State) : Result := chgIdx false .b6 .IY d (some .H) s
/-- RES 6,(IY+d) -> L (R337). -/
def execRes_6_atIYd_to_L (d : Byte) (s : State) : Result := chgIdx false .b6 .IY d (some .L) s
/-- RES 6,(IY+d) (R337). -/
def execRes_6_atIYd (d : Byte) (s : State) : Result := chgIdx false .b6 .IY d none s
/-- RES 6,(IY+d) -> A (R337). -/
def execRes_6_atIYd_to_A (d : Byte) (s : State) : Result := chgIdx false .b6 .IY d (some .A) s
/-- RES 7,(IY+d) -> B (R337). -/
def execRes_7_atIYd_to_B (d : Byte) (s : State) : Result := chgIdx false .b7 .IY d (some .B) s
/-- RES 7,(IY+d) -> C (R337). -/
def execRes_7_atIYd_to_C (d : Byte) (s : State) : Result := chgIdx false .b7 .IY d (some .C) s
/-- RES 7,(IY+d) -> D (R337). -/
def execRes_7_atIYd_to_D (d : Byte) (s : State) : Result := chgIdx false .b7 .IY d (some .D) s
/-- RES 7,(IY+d) -> E (R337). -/
def execRes_7_atIYd_to_E (d : Byte) (s : State) : Result := chgIdx false .b7 .IY d (some .E) s
/-- RES 7,(IY+d) -> H (R337). -/
def execRes_7_atIYd_to_H (d : Byte) (s : State) : Result := chgIdx false .b7 .IY d (some .H) s
/-- RES 7,(IY+d) -> L (R337). -/
def execRes_7_atIYd_to_L (d : Byte) (s : State) : Result := chgIdx false .b7 .IY d (some .L) s
/-- RES 7,(IY+d) (R337). -/
def execRes_7_atIYd (d : Byte) (s : State) : Result := chgIdx false .b7 .IY d none s
/-- RES 7,(IY+d) -> A (R337). -/
def execRes_7_atIYd_to_A (d : Byte) (s : State) : Result := chgIdx false .b7 .IY d (some .A) s
/-- SET 0,(IY+d) -> B (R336). -/
def execSet_0_atIYd_to_B (d : Byte) (s : State) : Result := chgIdx true .b0 .IY d (some .B) s
/-- SET 0,(IY+d) -> C (R336). -/
def execSet_0_atIYd_to_C (d : Byte) (s : State) : Result := chgIdx true .b0 .IY d (some .C) s
/-- SET 0,(IY+d) -> D (R336). -/
def execSet_0_atIYd_to_D (d : Byte) (s : State) : Result := chgIdx true .b0 .IY d (some .D) s
/-- SET 0,(IY+d) -> E (R336). -/
def execSet_0_atIYd_to_E (d : Byte) (s : State) : Result := chgIdx true .b0 .IY d (some .E) s
/-- SET 0,(IY+d) -> H (R336). -/
def execSet_0_atIYd_to_H (d : Byte) (s : State) : Result := chgIdx true .b0 .IY d (some .H) s
/-- SET 0,(IY+d) -> L (R336). -/
def execSet_0_atIYd_to_L (d : Byte) (s : State) : Result := chgIdx true .b0 .IY d (some .L) s
/-- SET 0,(IY+d) (R336). -/
def execSet_0_atIYd (d : Byte) (s : State) : Result := chgIdx true .b0 .IY d none s
/-- SET 0,(IY+d) -> A (R336). -/
def execSet_0_atIYd_to_A (d : Byte) (s : State) : Result := chgIdx true .b0 .IY d (some .A) s
/-- SET 1,(IY+d) -> B (R336). -/
def execSet_1_atIYd_to_B (d : Byte) (s : State) : Result := chgIdx true .b1 .IY d (some .B) s
/-- SET 1,(IY+d) -> C (R336). -/
def execSet_1_atIYd_to_C (d : Byte) (s : State) : Result := chgIdx true .b1 .IY d (some .C) s
/-- SET 1,(IY+d) -> D (R336). -/
def execSet_1_atIYd_to_D (d : Byte) (s : State) : Result := chgIdx true .b1 .IY d (some .D) s
/-- SET 1,(IY+d) -> E (R336). -/
def execSet_1_atIYd_to_E (d : Byte) (s : State) : Result := chgIdx true .b1 .IY d (some .E) s
/-- SET 1,(IY+d) -> H (R336). -/
def execSet_1_atIYd_to_H (d : Byte) (s : State) : Result := chgIdx true .b1 .IY d (some .H) s
/-- SET 1,(IY+d) -> L (R336). -/
def execSet_1_atIYd_to_L (d : Byte) (s : State) : Result := chgIdx true .b1 .IY d (some .L) s
/-- SET 1,(IY+d) (R336). -/
def execSet_1_atIYd (d : Byte) (s : State) : Result := chgIdx true .b1 .IY d none s
/-- SET 1,(IY+d) -> A (R336). -/
def execSet_1_atIYd_to_A (d : Byte) (s : State) : Result := chgIdx true .b1 .IY d (some .A) s
/-- SET 2,(IY+d) -> B (R336). -/
def execSet_2_atIYd_to_B (d : Byte) (s : State) : Result := chgIdx true .b2 .IY d (some .B) s
/-- SET 2,(IY+d) -> C (R336). -/
def execSet_2_atIYd_to_C (d : Byte) (s : State) : Result := chgIdx true .b2 .IY d (some .C) s
/-- SET 2,(IY+d) -> D (R336). -/
def execSet_2_atIYd_to_D (d : Byte) (s : State) : Result := chgIdx true .b2 .IY d (some .D) s
/-- SET 2,(IY+d) -> E (R336). -/
def execSet_2_atIYd_to_E (d : Byte) (s : State) : Result := chgIdx true .b2 .IY d (some .E) s
/-- SET 2,(IY+d) -> H (R336). -/
def execSet_2_atIYd_to_H (d : Byte) (s : State) : Result := chgIdx true .b2 .IY d (some .H) s
/-- SET 2,(IY+d) -> L (R336). -/
def execSet_2_atIYd_to_L (d : Byte) (s : State) : Result := chgIdx true .b2 .IY d (some .L) s
/-- SET 2,(IY+d) (R336). -/
def execSet_2_atIYd (d : Byte) (s : State) : Result := chgIdx true .b2 .IY d none s
/-- SET 2,(IY+d) -> A (R336). -/
def execSet_2_atIYd_to_A (d : Byte) (s : State) : Result := chgIdx true .b2 .IY d (some .A) s
/-- SET 3,(IY+d) -> B (R336). -/
def execSet_3_atIYd_to_B (d : Byte) (s : State) : Result := chgIdx true .b3 .IY d (some .B) s
/-- SET 3,(IY+d) -> C (R336). -/
def execSet_3_atIYd_to_C (d : Byte) (s : State) : Result := chgIdx true .b3 .IY d (some .C) s
/-- SET 3,(IY+d) -> D (R336). -/
def execSet_3_atIYd_to_D (d : Byte) (s : State) : Result := chgIdx true .b3 .IY d (some .D) s
/-- SET 3,(IY+d) -> E (R336). -/
def execSet_3_atIYd_to_E (d : Byte) (s : State) : Result := chgIdx true .b3 .IY d (some .E) s
/-- SET 3,(IY+d) -> H (R336). -/
def execSet_3_atIYd_to_H (d : Byte) (s : State) : Result := chgIdx true .b3 .IY d (some .H) s
/-- SET 3,(IY+d) -> L (R336). -/
def execSet_3_atIYd_to_L (d : Byte) (s : State) : Result := chgIdx true .b3 .IY d (some .L) s
/-- SET 3,(IY+d) (R336). -/
def execSet_3_atIYd (d : Byte) (s : State) : Result := chgIdx true .b3 .IY d none s
/-- SET 3,(IY+d) -> A (R336). -/
def execSet_3_atIYd_to_A (d : Byte) (s : State) : Result := chgIdx true .b3 .IY d (some .A) s
/-- SET 4,(IY+d) -> B (R336). -/
def execSet_4_atIYd_to_B (d : Byte) (s : State) : Result := chgIdx true .b4 .IY d (some .B) s
/-- SET 4,(IY+d) -> C (R336). -/
def execSet_4_atIYd_to_C (d : Byte) (s : State) : Result := chgIdx true .b4 .IY d (some .C) s
/-- SET 4,(IY+d) -> D (R336). -/
def execSet_4_atIYd_to_D (d : Byte) (s : State) : Result := chgIdx true .b4 .IY d (some .D) s
/-- SET 4,(IY+d) -> E (R336). -/
def execSet_4_atIYd_to_E (d : Byte) (s : State) : Result := chgIdx true .b4 .IY d (some .E) s
/-- SET 4,(IY+d) -> H (R336). -/
def execSet_4_atIYd_to_H (d : Byte) (s : State) : Result := chgIdx true .b4 .IY d (some .H) s
/-- SET 4,(IY+d) -> L (R336). -/
def execSet_4_atIYd_to_L (d : Byte) (s : State) : Result := chgIdx true .b4 .IY d (some .L) s
/-- SET 4,(IY+d) (R336). -/
def execSet_4_atIYd (d : Byte) (s : State) : Result := chgIdx true .b4 .IY d none s
/-- SET 4,(IY+d) -> A (R336). -/
def execSet_4_atIYd_to_A (d : Byte) (s : State) : Result := chgIdx true .b4 .IY d (some .A) s
/-- SET 5,(IY+d) -> B (R336). -/
def execSet_5_atIYd_to_B (d : Byte) (s : State) : Result := chgIdx true .b5 .IY d (some .B) s
/-- SET 5,(IY+d) -> C (R336). -/
def execSet_5_atIYd_to_C (d : Byte) (s : State) : Result := chgIdx true .b5 .IY d (some .C) s
/-- SET 5,(IY+d) -> D (R336). -/
def execSet_5_atIYd_to_D (d : Byte) (s : State) : Result := chgIdx true .b5 .IY d (some .D) s
/-- SET 5,(IY+d) -> E (R336). -/
def execSet_5_atIYd_to_E (d : Byte) (s : State) : Result := chgIdx true .b5 .IY d (some .E) s
/-- SET 5,(IY+d) -> H (R336). -/
def execSet_5_atIYd_to_H (d : Byte) (s : State) : Result := chgIdx true .b5 .IY d (some .H) s
/-- SET 5,(IY+d) -> L (R336). -/
def execSet_5_atIYd_to_L (d : Byte) (s : State) : Result := chgIdx true .b5 .IY d (some .L) s
/-- SET 5,(IY+d) (R336). -/
def execSet_5_atIYd (d : Byte) (s : State) : Result := chgIdx true .b5 .IY d none s
/-- SET 5,(IY+d) -> A (R336). -/
def execSet_5_atIYd_to_A (d : Byte) (s : State) : Result := chgIdx true .b5 .IY d (some .A) s
/-- SET 6,(IY+d) -> B (R336). -/
def execSet_6_atIYd_to_B (d : Byte) (s : State) : Result := chgIdx true .b6 .IY d (some .B) s
/-- SET 6,(IY+d) -> C (R336). -/
def execSet_6_atIYd_to_C (d : Byte) (s : State) : Result := chgIdx true .b6 .IY d (some .C) s
/-- SET 6,(IY+d) -> D (R336). -/
def execSet_6_atIYd_to_D (d : Byte) (s : State) : Result := chgIdx true .b6 .IY d (some .D) s
/-- SET 6,(IY+d) -> E (R336). -/
def execSet_6_atIYd_to_E (d : Byte) (s : State) : Result := chgIdx true .b6 .IY d (some .E) s
/-- SET 6,(IY+d) -> H (R336). -/
def execSet_6_atIYd_to_H (d : Byte) (s : State) : Result := chgIdx true .b6 .IY d (some .H) s
/-- SET 6,(IY+d) -> L (R336). -/
def execSet_6_atIYd_to_L (d : Byte) (s : State) : Result := chgIdx true .b6 .IY d (some .L) s
/-- SET 6,(IY+d) (R336). -/
def execSet_6_atIYd (d : Byte) (s : State) : Result := chgIdx true .b6 .IY d none s
/-- SET 6,(IY+d) -> A (R336). -/
def execSet_6_atIYd_to_A (d : Byte) (s : State) : Result := chgIdx true .b6 .IY d (some .A) s
/-- SET 7,(IY+d) -> B (R336). -/
def execSet_7_atIYd_to_B (d : Byte) (s : State) : Result := chgIdx true .b7 .IY d (some .B) s
/-- SET 7,(IY+d) -> C (R336). -/
def execSet_7_atIYd_to_C (d : Byte) (s : State) : Result := chgIdx true .b7 .IY d (some .C) s
/-- SET 7,(IY+d) -> D (R336). -/
def execSet_7_atIYd_to_D (d : Byte) (s : State) : Result := chgIdx true .b7 .IY d (some .D) s
/-- SET 7,(IY+d) -> E (R336). -/
def execSet_7_atIYd_to_E (d : Byte) (s : State) : Result := chgIdx true .b7 .IY d (some .E) s
/-- SET 7,(IY+d) -> H (R336). -/
def execSet_7_atIYd_to_H (d : Byte) (s : State) : Result := chgIdx true .b7 .IY d (some .H) s
/-- SET 7,(IY+d) -> L (R336). -/
def execSet_7_atIYd_to_L (d : Byte) (s : State) : Result := chgIdx true .b7 .IY d (some .L) s
/-- SET 7,(IY+d) (R336). -/
def execSet_7_atIYd (d : Byte) (s : State) : Result := chgIdx true .b7 .IY d none s
/-- SET 7,(IY+d) -> A (R336). -/
def execSet_7_atIYd_to_A (d : Byte) (s : State) : Result := chgIdx true .b7 .IY d (some .A) s

end Sys2Proof.Machine
end

