-- ==== Sys2Proof/Machine/Block.lean ====
section
/-! DEFINITION. Block transfer, search and I/O (47_block.md, R390 to R406): the shared operations, then one meaning per
instruction. -/

namespace Sys2Proof.Machine

/-- A pointer after one iteration: plus one for the incrementing forms, minus one for the decrementing forms. -/
def stepWord (down : Bool) (w : Word) : Word := if down then w - 1 else w + 1

/-- The end of an iteration (R390): a repeating form whose continuation condition holds leaves PC at pc0 and costs 21;
any other ends at the next instruction and costs 16. -/
def State.blockEnd (s : State) (again : Bool) : State := if again then s.finishAt s.pc 21 else s.finish 2 16

/-- The end of an iteration of a move or compare form, which sets `WZ <- (pc0 + 1)_16` when it repeats (R390). -/
def State.blockEndWZ (s : State) (again : Bool) : State :=
  if again then (s.setWZ (s.pc + 1)).blockEnd true else s.blockEnd false

/-- One iteration of LDI, LDD, LDIR, LDDR (R391 to R394). -/
def blockMove (down rep : Bool) (s : State) : Result := outcome do
  let v ← s.memRead s.hl
  let s1 ← s.memWrite s.de v
  let bc := s.bc - 1
  let s2 := (((s1.setDE (stepWord down s.de)).setHL (stepWord down s.hl)).setBC bc).setF (blockmoveFlags s.a v bc s.f)
  pure (s2.blockEndWZ (rep && bc != 0))

/-- One iteration of CPI, CPD, CPIR, CPDR (R395 to R398). -/
def blockCompare (down rep : Bool) (s : State) : Result := outcome do
  let v ← s.memRead s.hl
  let bc := s.bc - 1
  let f := blockcmpFlags s.a v bc s.f
  let s1 := (((s.setHL (stepWord down s.hl)).setBC bc).setF f).setWZ (stepWord down s.wz)
  pure (s1.blockEndWZ (rep && bc != 0 && !flagZ f))

/-- The sum k of INI and IND, `v + (C ± 1)_8` (R399, R401). -/
def inSum (down : Bool) (v c : Byte) : Nat := v.toNat + (if down then c - 1 else c + 1).toNat

/-- One iteration of INI, IND, INIR, INDR (R399 to R402). -/
def blockIn (down rep : Bool) (s : State) : Result := outcome do
  let s1 := s.setWZ (stepWord down s.bc)
  let v := (s1.ioRead s.regs.c).1
  let s2 := (s1.ioRead s.regs.c).2
  let b := s.regs.b - 1
  let s3 ← (s2.setReg .B b).memWrite s.hl v
  let s4 := (s3.setHL (stepWord down s.hl)).setF (blockioFlags v (inSum down v s.regs.c) b)
  pure (s4.blockEnd (rep && b != 0))

/-- One iteration of OUTI, OUTD, OTIR, OTDR (R403 to R406): WZ from BC with the decremented B, k from L after the step. -/
def blockOut (down rep : Bool) (s : State) : Result := outcome do
  let v ← s.memRead s.hl
  let b := s.regs.b - 1
  let s1 := (s.setReg .B b).setWZ (stepWord down (join b s.regs.c))
  let s2 := s1.ioWrite s.regs.c v
  let hl := stepWord down s.hl
  let s3 := (s2.setHL hl).setF (blockioFlags v (v.toNat + (lo hl).toNat) b)
  pure (s3.blockEnd (rep && b != 0))

/-! ## The meanings -/

/-- LDI (R391). -/
def execLdi (s : State) : Result := blockMove false false s
/-- CPI (R395). -/
def execCpi (s : State) : Result := blockCompare false false s
/-- INI (R399). -/
def execIni (s : State) : Result := blockIn false false s
/-- OUTI (R403). -/
def execOuti (s : State) : Result := blockOut false false s
/-- LDD (R393). -/
def execLdd (s : State) : Result := blockMove true false s
/-- CPD (R397). -/
def execCpd (s : State) : Result := blockCompare true false s
/-- IND (R401). -/
def execInd (s : State) : Result := blockIn true false s
/-- OUTD (R405). -/
def execOutd (s : State) : Result := blockOut true false s
/-- LDIR (R392). -/
def execLdir (s : State) : Result := blockMove false true s
/-- CPIR (R396). -/
def execCpir (s : State) : Result := blockCompare false true s
/-- INIR (R400). -/
def execInir (s : State) : Result := blockIn false true s
/-- OTIR (R404). -/
def execOtir (s : State) : Result := blockOut false true s
/-- LDDR (R394). -/
def execLddr (s : State) : Result := blockMove true true s
/-- CPDR (R398). -/
def execCpdr (s : State) : Result := blockCompare true true s
/-- INDR (R402). -/
def execIndr (s : State) : Result := blockIn true true s
/-- OTDR (R406). -/
def execOtdr (s : State) : Result := blockOut true true s

end Sys2Proof.Machine
end

