-- ==== Sys2Proof/Machine/Control.lean ====
section
/-! DEFINITION. Control transfer (46_control.md, R360 to R373): the shared operations, then one meaning per
instruction. -/

namespace Sys2Proof.Machine

/-- The target of JR and DJNZ, `next + sext_16(e)` (R122): both are two bytes long. -/
def State.relTarget (s : State) (e : Byte) : Word := s.nextPc 2 + sext e

/-- A taken JR or DJNZ: WZ takes the target too (R362, R363, R366). -/
def State.jumpRel (s : State) (e : Byte) (cost : Nat) : State := (s.setWZ (s.relTarget e)).finishAt (s.relTarget e) cost

/-- `JP cc,nn` (R361): WZ takes nn, taken or not. -/
def jpCond (cc : Cond) (nn : Word) (s : State) : Result :=
  if condHolds cc s.f then .next ((s.setWZ nn).finishAt nn 10) else .next ((s.setWZ nn).finish 3 10)

/-- `JR cc,e` (R363): not taken, WZ is unchanged. -/
def jrCond (cc : JrCond) (e : Byte) (s : State) : Result :=
  if condHolds cc.cond s.f then .next (s.jumpRel e 12) else .next (s.finish 2 7)

/-- `JP (xy)` (R365). -/
def jpIndex (x : Index) (s : State) : Result := .next (s.finishAt (s.index x) 8)

/-- A taken call (R367, R368): WZ takes nn, the address of the next instruction is pushed. -/
def State.callTo (s : State) (nn : Word) : Except Fault State := do
  let s1 ← (s.setWZ nn).push16 (s.nextPc 3)
  pure (s1.finishAt nn 17)

/-- `CALL cc,nn` (R368): not taken, it does not touch the stack. -/
def callCond (cc : Cond) (nn : Word) (s : State) : Result :=
  if condHolds cc s.f then outcome (s.callTo nn) else .next ((s.setWZ nn).finish 3 10)

/-- A taken return (R369 to R372): WZ takes the popped address. -/
def State.retWith (s : State) (cost : Nat) : Except Fault State := do
  let (target, s1) ← s.pop16
  pure ((s1.setWZ target).finishAt target cost)

/-- `RET cc` (R370). -/
def retCond (cc : Cond) (s : State) : Result :=
  if condHolds cc s.f then outcome (s.retWith 11) else .next (s.finish 1 5)

/-- `RST p` (R373). -/
def rst (t : RstTarget) (s : State) : Result := outcome do
  let s1 ← s.push16 (s.nextPc 1)
  pure ((s1.setWZ t.addr).finishAt t.addr 11)

/-! ## The meanings -/

/-- `JP nn` (R360). -/
def execJp_nn (nn : Word) (s : State) : Result := .next ((s.setWZ nn).finishAt nn 10)

/-- `JR e` (R362). -/
def execJr_e (e : Byte) (s : State) : Result := .next (s.jumpRel e 12)

/-- `JP (HL)` (R364): no memory is read. -/
def execJp_atHL (s : State) : Result := .next (s.finishAt s.hl 4)

/-- `DJNZ e` (R366). -/
def execDjnz_e (e : Byte) (s : State) : Result :=
  if s.regs.b - 1 = 0 then .next ((s.setReg .B (s.regs.b - 1)).finish 2 8)
  else .next ((s.setReg .B (s.regs.b - 1)).jumpRel e 13)

/-- `CALL nn` (R367). -/
def execCall_nn (nn : Word) (s : State) : Result := outcome (s.callTo nn)

/-- `RET` (R369). -/
def execRet (s : State) : Result := outcome (s.retWith 10)

/-- `RETI` (R371): IFF1 takes IFF2. -/
def execReti (s : State) : Result := outcome do
  let s1 ← s.retWith 14
  pure { s1 with iff1 := s.iff2 }

/-- `RETN` (R372): IFF1 and IFF2 are unchanged. -/
def execRetn (s : State) : Result := outcome (s.retWith 14)

/-- JR NZ,e (R363). -/
def execJr_NZ_e (e : Byte) (s : State) : Result := jrCond .NZ e s
/-- JR Z,e (R363). -/
def execJr_Z_e (e : Byte) (s : State) : Result := jrCond .Z e s
/-- JR NC,e (R363). -/
def execJr_NC_e (e : Byte) (s : State) : Result := jrCond .NC e s
/-- JR C,e (R363). -/
def execJr_C_e (e : Byte) (s : State) : Result := jrCond .C e s
/-- RET NZ (R370). -/
def execRet_NZ (s : State) : Result := retCond .NZ s
/-- JP NZ,nn (R361). -/
def execJp_NZ_nn (nn : Word) (s : State) : Result := jpCond .NZ nn s
/-- CALL NZ,nn (R368). -/
def execCall_NZ_nn (nn : Word) (s : State) : Result := callCond .NZ nn s
/-- RST 00H (R373). -/
def execRst_00H (s : State) : Result := rst .t00 s
/-- RET Z (R370). -/
def execRet_Z (s : State) : Result := retCond .Z s
/-- JP Z,nn (R361). -/
def execJp_Z_nn (nn : Word) (s : State) : Result := jpCond .Z nn s
/-- CALL Z,nn (R368). -/
def execCall_Z_nn (nn : Word) (s : State) : Result := callCond .Z nn s
/-- RST 08H (R373). -/
def execRst_08H (s : State) : Result := rst .t08 s
/-- RET NC (R370). -/
def execRet_NC (s : State) : Result := retCond .NC s
/-- JP NC,nn (R361). -/
def execJp_NC_nn (nn : Word) (s : State) : Result := jpCond .NC nn s
/-- CALL NC,nn (R368). -/
def execCall_NC_nn (nn : Word) (s : State) : Result := callCond .NC nn s
/-- RST 10H (R373). -/
def execRst_10H (s : State) : Result := rst .t10 s
/-- RET C (R370). -/
def execRet_C (s : State) : Result := retCond .C s
/-- JP C,nn (R361). -/
def execJp_C_nn (nn : Word) (s : State) : Result := jpCond .C nn s
/-- CALL C,nn (R368). -/
def execCall_C_nn (nn : Word) (s : State) : Result := callCond .C nn s
/-- RST 18H (R373). -/
def execRst_18H (s : State) : Result := rst .t18 s
/-- RET PO (R370). -/
def execRet_PO (s : State) : Result := retCond .PO s
/-- JP PO,nn (R361). -/
def execJp_PO_nn (nn : Word) (s : State) : Result := jpCond .PO nn s
/-- CALL PO,nn (R368). -/
def execCall_PO_nn (nn : Word) (s : State) : Result := callCond .PO nn s
/-- RST 20H (R373). -/
def execRst_20H (s : State) : Result := rst .t20 s
/-- RET PE (R370). -/
def execRet_PE (s : State) : Result := retCond .PE s
/-- JP PE,nn (R361). -/
def execJp_PE_nn (nn : Word) (s : State) : Result := jpCond .PE nn s
/-- CALL PE,nn (R368). -/
def execCall_PE_nn (nn : Word) (s : State) : Result := callCond .PE nn s
/-- RST 28H (R373). -/
def execRst_28H (s : State) : Result := rst .t28 s
/-- RET P (R370). -/
def execRet_P (s : State) : Result := retCond .P s
/-- JP P,nn (R361). -/
def execJp_P_nn (nn : Word) (s : State) : Result := jpCond .P nn s
/-- CALL P,nn (R368). -/
def execCall_P_nn (nn : Word) (s : State) : Result := callCond .P nn s
/-- RST 30H (R373). -/
def execRst_30H (s : State) : Result := rst .t30 s
/-- RET M (R370). -/
def execRet_M (s : State) : Result := retCond .M s
/-- JP M,nn (R361). -/
def execJp_M_nn (nn : Word) (s : State) : Result := jpCond .M nn s
/-- CALL M,nn (R368). -/
def execCall_M_nn (nn : Word) (s : State) : Result := callCond .M nn s
/-- RST 38H (R373). -/
def execRst_38H (s : State) : Result := rst .t38 s
/-- JP (IX) (R365). -/
def execJp_atIX (s : State) : Result := jpIndex .IX s
/-- JP (IY) (R365). -/
def execJp_atIY (s : State) : Result := jpIndex .IY s

end Sys2Proof.Machine
end

