-- ==== Sys2Proof/Machine/IoCpu.lean ====
section
/-! DEFINITION. Port I/O and CPU control (48_io_cpu_control.md, R420 to R430), and the undefined opcodes (R126): the shared
operations, then one meaning per instruction. -/

namespace Sys2Proof.Machine

/-- `IN r,(C)` (R421): WZ from BC before the load. -/
def inReg (r : Reg8) (s : State) : Result :=
  let v := ((s.setWZ (s.bc + 1)).ioRead s.regs.c).1
  let s1 := ((s.setWZ (s.bc + 1)).ioRead s.regs.c).2
  .next (((s1.setReg r v).setF ((s.f &&& 0x01) ||| sz53p v)).finish 2 12)

/-- `OUT (C),r` (R423). -/
def outReg (r : Reg8) (s : State) : Result :=
  .next (((s.ioWrite s.regs.c (s.reg r)).setWZ (s.bc + 1)).finish 2 12)

/-- `IM 0`, `IM 1`, `IM 2` (R428 to R430). -/
def setIm (m : ImMode) (s : State) : Result := .next (({ s with im := m.value }).finish 2 8)

/-- Both interrupt flip-flops set or cleared (R426, R427). -/
def setIff (v : Bool) (s : State) : Result := .next (({ s with iff1 := v, iff2 := v }).finish 1 4)

/-! ## The meanings -/

/-- `IN A,(n)` (R420): WZ from A before the load. -/
def execIn_A_atn (n : Byte) (s : State) : Result :=
  let v := ((s.setWZ (join s.a n + 1)).ioRead n).1
  let s1 := ((s.setWZ (join s.a n + 1)).ioRead n).2
  .next ((s1.setA v).finish 2 11)

/-- `OUT (n),A` (R422): `WZ <- A : (n + 1)_8`. -/
def execOut_atn_A (n : Byte) (s : State) : Result :=
  .next (((s.ioWrite n s.a).setWZ (join s.a (n + 1))).finish 2 11)

/-- `NOP` (R424). -/
def execNop (s : State) : Result := .next (s.finish 1 4)

/-- `HALT` (R425, R453): PC stays, 4 cycles are added, and the step ends with the Halt condition. -/
def execHalt (s : State) : Result := .next (s.haltCondition 4)

/-- `DI` (R426). -/
def execDi (s : State) : Result := setIff false s

/-- `EI` (R427): the one-instruction delay has no effect. -/
def execEi (s : State) : Result := setIff true s

/-- An undefined ED, DD or FD opcode (R126, R451): no state changes, the step reports `InvalidInstruction`. -/
def execInvalid (p : OpPrefix) (op : Byte) (s : State) : Result := outcome (s.raiseInvalid p.byte op)

/-- IN B,(C) (R421). -/
def execIn_B_atC (s : State) : Result := inReg .B s
/-- OUT (C),B (R423). -/
def execOut_atC_B (s : State) : Result := outReg .B s
/-- IM 0 (R428). -/
def execIm_0 (s : State) : Result := setIm .im0 s
/-- IN C,(C) (R421). -/
def execIn_C_atC (s : State) : Result := inReg .C s
/-- OUT (C),C (R423). -/
def execOut_atC_C (s : State) : Result := outReg .C s
/-- IN D,(C) (R421). -/
def execIn_D_atC (s : State) : Result := inReg .D s
/-- OUT (C),D (R423). -/
def execOut_atC_D (s : State) : Result := outReg .D s
/-- IM 1 (R429). -/
def execIm_1 (s : State) : Result := setIm .im1 s
/-- IN E,(C) (R421). -/
def execIn_E_atC (s : State) : Result := inReg .E s
/-- OUT (C),E (R423). -/
def execOut_atC_E (s : State) : Result := outReg .E s
/-- IM 2 (R430). -/
def execIm_2 (s : State) : Result := setIm .im2 s
/-- IN H,(C) (R421). -/
def execIn_H_atC (s : State) : Result := inReg .H s
/-- OUT (C),H (R423). -/
def execOut_atC_H (s : State) : Result := outReg .H s
/-- IN L,(C) (R421). -/
def execIn_L_atC (s : State) : Result := inReg .L s
/-- OUT (C),L (R423). -/
def execOut_atC_L (s : State) : Result := outReg .L s
/-- IN A,(C) (R421). -/
def execIn_A_atC (s : State) : Result := inReg .A s
/-- OUT (C),A (R423). -/
def execOut_atC_A (s : State) : Result := outReg .A s

end Sys2Proof.Machine
end

