-- ==== Sys2Proof/Machine/Load16.lean ====
section
/-! DEFINITION. 16-bit loads, stack and exchange (42_load16_stack_exchange.md, R240 to R258): the shared operations,
then one meaning per instruction. -/

namespace Sys2Proof.Machine

/-- `LD dd,nn` (R240). -/
def ldPairImm (p : Pair) (nn : Word) (s : State) : Result := .next ((s.setPair p nn).finish 3 10)

/-- `LD xy,nn` (R241). -/
def ldIndexImm (x : Index) (nn : Word) (s : State) : Result := .next ((s.setIndex x nn).finish 4 14)

/-- `LD dd,(nn)` (R242, R243): the length and cost tell the one-byte-opcode form of HL from the ED form. -/
def ldPairAbs (p : Pair) (nn : Word) (len cost : Nat) (s : State) : Result := outcome do
  let v ← s.memRead16 nn
  pure (((s.setPair p v).setWZ (nn + 1)).finish len cost)

/-- `LD xy,(nn)` (R244). -/
def ldIndexAbs (x : Index) (nn : Word) (s : State) : Result := outcome do
  let v ← s.memRead16 nn
  pure (((s.setIndex x v).setWZ (nn + 1)).finish 4 20)

/-- `LD (nn),dd` (R245, R246): the low byte first. -/
def ldAbsPair (p : Pair) (nn : Word) (len cost : Nat) (s : State) : Result := outcome do
  let s1 ← s.memWrite16 nn (s.pair p)
  pure ((s1.setWZ (nn + 1)).finish len cost)

/-- `LD (nn),xy` (R247). -/
def ldAbsIndex (x : Index) (nn : Word) (s : State) : Result := outcome do
  let s1 ← s.memWrite16 nn (s.index x)
  pure ((s1.setWZ (nn + 1)).finish 4 20)

/-- `LD SP,HL` (R248). -/
def ldSpHl (s : State) : Result := .next ((s.setPair .SP s.hl).finish 1 6)

/-- `LD SP,xy` (R249). -/
def ldSpIndex (x : Index) (s : State) : Result := .next ((s.setPair .SP (s.index x)).finish 2 10)

/-- `PUSH qq` (R250). -/
def pushPair (q : StackPair) (s : State) : Result := outcome do
  let s1 ← s.push16 (s.stackPair q)
  pure (s1.finish 1 11)

/-- `PUSH xy` (R251). -/
def pushIndex (x : Index) (s : State) : Result := outcome do
  let s1 ← s.push16 (s.index x)
  pure (s1.finish 2 15)

/-- `POP qq` (R252): `POP AF` takes F as it stands in memory. -/
def popPair (q : StackPair) (s : State) : Result := outcome do
  let (v, s1) ← s.pop16
  pure ((s1.setStackPair q v).finish 1 10)

/-- `POP xy` (R253). -/
def popIndex (x : Index) (s : State) : Result := outcome do
  let (v, s1) ← s.pop16
  pure ((s1.setIndex x v).finish 2 14)

/-- `EX DE,HL` (R254). -/
def exDeHl (s : State) : Result := .next (((s.setDE s.hl).setHL s.de).finish 1 4)

/-- `EX AF,AF'` (R255). -/
def exAf (s : State) : Result := .next ((({ s with afAlt := s.af }).setAF s.afAlt).finish 1 4)

/-- `EXX` (R256). -/
def exx (s : State) : Result :=
  .next ((((({ s with bcAlt := s.bc, deAlt := s.de, hlAlt := s.hl }).setBC s.bcAlt).setDE s.deAlt).setHL s.hlAlt).finish 1 4)

/-- The accesses of `EX (SP),HL` and `EX (SP),xy` (R257): the word at SP, and the state with `v` stored there, its high
byte first. -/
def State.swapTop (s : State) (v : Word) : Except Fault (Word × State) := do
  let old ← s.memRead16 s.sp
  let s1 ← s.memWrite (s.sp + 1) (hi v)
  let s2 ← s1.memWrite s.sp (lo v)
  pure (old, s2)

/-- `EX (SP),HL` (R257). -/
def exSpHl (s : State) : Result := outcome do
  let (old, s1) ← s.swapTop s.hl
  pure (((s1.setHL old).setWZ old).finish 1 19)

/-- `EX (SP),xy` (R258). -/
def exSpIndex (x : Index) (s : State) : Result := outcome do
  let (old, s1) ← s.swapTop (s.index x)
  pure (((s1.setIndex x old).setWZ old).finish 2 23)

/-! ## The meanings -/

/-- LD BC,nn (R240). -/
def execLd_BC_nn (nn : Word) (s : State) : Result := ldPairImm .BC nn s
/-- EX AF,AF' (R255). -/
def execEx_AF_AFalt (s : State) : Result := exAf s
/-- LD DE,nn (R240). -/
def execLd_DE_nn (nn : Word) (s : State) : Result := ldPairImm .DE nn s
/-- LD HL,nn (R240). -/
def execLd_HL_nn (nn : Word) (s : State) : Result := ldPairImm .HL nn s
/-- LD (nn),HL (R245). -/
def execLd_atnn_HL (nn : Word) (s : State) : Result := ldAbsPair .HL nn 3 16 s
/-- LD HL,(nn) (R242). -/
def execLd_HL_atnn (nn : Word) (s : State) : Result := ldPairAbs .HL nn 3 16 s
/-- LD SP,nn (R240). -/
def execLd_SP_nn (nn : Word) (s : State) : Result := ldPairImm .SP nn s
/-- POP BC (R252). -/
def execPop_BC (s : State) : Result := popPair .BC s
/-- PUSH BC (R250). -/
def execPush_BC (s : State) : Result := pushPair .BC s
/-- POP DE (R252). -/
def execPop_DE (s : State) : Result := popPair .DE s
/-- PUSH DE (R250). -/
def execPush_DE (s : State) : Result := pushPair .DE s
/-- EXX (R256). -/
def execExx (s : State) : Result := exx s
/-- POP HL (R252). -/
def execPop_HL (s : State) : Result := popPair .HL s
/-- EX (SP),HL (R257). -/
def execEx_atSP_HL (s : State) : Result := exSpHl s
/-- PUSH HL (R250). -/
def execPush_HL (s : State) : Result := pushPair .HL s
/-- EX DE,HL (R254). -/
def execEx_DE_HL (s : State) : Result := exDeHl s
/-- POP AF (R252). -/
def execPop_AF (s : State) : Result := popPair .AF s
/-- PUSH AF (R250). -/
def execPush_AF (s : State) : Result := pushPair .AF s
/-- LD SP,HL (R248). -/
def execLd_SP_HL (s : State) : Result := ldSpHl s
/-- LD (nn),BC (R246). -/
def execLd_atnn_BC (nn : Word) (s : State) : Result := ldAbsPair .BC nn 4 20 s
/-- LD BC,(nn) (R243). -/
def execLd_BC_atnn (nn : Word) (s : State) : Result := ldPairAbs .BC nn 4 20 s
/-- LD (nn),DE (R246). -/
def execLd_atnn_DE (nn : Word) (s : State) : Result := ldAbsPair .DE nn 4 20 s
/-- LD DE,(nn) (R243). -/
def execLd_DE_atnn (nn : Word) (s : State) : Result := ldPairAbs .DE nn 4 20 s
/-- LD (nn),HL (R246). -/
def execLd_atnn_HL_ED (nn : Word) (s : State) : Result := ldAbsPair .HL nn 4 20 s
/-- LD HL,(nn) (R243). -/
def execLd_HL_atnn_ED (nn : Word) (s : State) : Result := ldPairAbs .HL nn 4 20 s
/-- LD (nn),SP (R246). -/
def execLd_atnn_SP (nn : Word) (s : State) : Result := ldAbsPair .SP nn 4 20 s
/-- LD SP,(nn) (R243). -/
def execLd_SP_atnn (nn : Word) (s : State) : Result := ldPairAbs .SP nn 4 20 s
/-- LD IX,nn (R241). -/
def execLd_IX_nn (nn : Word) (s : State) : Result := ldIndexImm .IX nn s
/-- LD (nn),IX (R247). -/
def execLd_atnn_IX (nn : Word) (s : State) : Result := ldAbsIndex .IX nn s
/-- LD IX,(nn) (R244). -/
def execLd_IX_atnn (nn : Word) (s : State) : Result := ldIndexAbs .IX nn s
/-- POP IX (R253). -/
def execPop_IX (s : State) : Result := popIndex .IX s
/-- EX (SP),IX (R258). -/
def execEx_atSP_IX (s : State) : Result := exSpIndex .IX s
/-- PUSH IX (R251). -/
def execPush_IX (s : State) : Result := pushIndex .IX s
/-- LD SP,IX (R249). -/
def execLd_SP_IX (s : State) : Result := ldSpIndex .IX s
/-- LD IY,nn (R241). -/
def execLd_IY_nn (nn : Word) (s : State) : Result := ldIndexImm .IY nn s
/-- LD (nn),IY (R247). -/
def execLd_atnn_IY (nn : Word) (s : State) : Result := ldAbsIndex .IY nn s
/-- LD IY,(nn) (R244). -/
def execLd_IY_atnn (nn : Word) (s : State) : Result := ldIndexAbs .IY nn s
/-- POP IY (R253). -/
def execPop_IY (s : State) : Result := popIndex .IY s
/-- EX (SP),IY (R258). -/
def execEx_atSP_IY (s : State) : Result := exSpIndex .IY s
/-- PUSH IY (R251). -/
def execPush_IY (s : State) : Result := pushIndex .IY s
/-- LD SP,IY (R249). -/
def execLd_SP_IY (s : State) : Result := ldSpIndex .IY s

end Sys2Proof.Machine
end

