-- ==== Sys2Proof/Machine/Load8.lean ====
section
/-! DEFINITION. 8-bit loads (41_load8.md, R200 to R219): the shared operations, then one meaning per instruction. -/

namespace Sys2Proof.Machine

/-- `LD r,r'` (R200). -/
def ldRegReg (d r : Reg8) (s : State) : Result := .next ((s.setReg d (s.reg r)).finish 1 4)

/-- `LD r,n` (R201). -/
def ldRegImm (d : Reg8) (n : Byte) (s : State) : Result := .next ((s.setReg d n).finish 2 7)

/-- `LD r,(HL)` (R202). -/
def ldRegMem (d : Reg8) (s : State) : Result := outcome do
  let v ← s.memRead s.hl
  pure ((s.setReg d v).finish 1 7)

/-- `LD (HL),r` (R203). -/
def ldMemReg (r : Reg8) (s : State) : Result := outcome do
  let s1 ← s.memWrite s.hl (s.reg r)
  pure (s1.finish 1 7)

/-- `LD (HL),n` (R204). -/
def ldMemImm (n : Byte) (s : State) : Result := outcome do
  let s1 ← s.memWrite s.hl n
  pure (s1.finish 2 10)

/-- `LD r,(xy+d)` (R205): H and L are the real H and L. -/
def ldRegIdx (r : Reg8) (x : Index) (d : Byte) (s : State) : Result := outcome do
  let s1 := s.setWZ (s.ea x d)
  let v ← s1.memRead (s.ea x d)
  pure ((s1.setReg r v).finish 3 19)

/-- `LD (xy+d),r` (R206): H and L are the real H and L. -/
def ldIdxReg (x : Index) (d : Byte) (r : Reg8) (s : State) : Result := outcome do
  let s1 := s.setWZ (s.ea x d)
  let s2 ← s1.memWrite (s.ea x d) (s.reg r)
  pure (s2.finish 3 19)

/-- `LD (xy+d),n` (R207). -/
def ldIdxImm (x : Index) (d n : Byte) (s : State) : Result := outcome do
  let s1 := s.setWZ (s.ea x d)
  let s2 ← s1.memWrite (s.ea x d) n
  pure (s2.finish 4 19)

/-- `LD A,(BC)` and `LD A,(DE)` (R208, R209): `WZ` takes the pair plus one. -/
def ldAccInd (p : AccPointer) (s : State) : Result := outcome do
  let v ← s.memRead (s.accPointer p)
  pure (((s.setA v).setWZ (s.accPointer p + 1)).finish 1 7)

/-- `LD (BC),A` and `LD (DE),A` (R210, R211): `WZ <- A : (low byte of the pair + 1)_8`. -/
def ldIndAcc (p : AccPointer) (s : State) : Result := outcome do
  let s1 ← s.memWrite (s.accPointer p) s.a
  pure ((s1.setWZ (join s.a (lo (s.accPointer p) + 1))).finish 1 7)

/-- `LD A,(nn)` (R212). -/
def ldAccAbs (nn : Word) (s : State) : Result := outcome do
  let v ← s.memRead nn
  pure (((s.setA v).setWZ (nn + 1)).finish 3 13)

/-- `LD (nn),A` (R213): `WZ <- A : (nn + 1)_8`. -/
def ldAbsAcc (nn : Word) (s : State) : Result := outcome do
  let s1 ← s.memWrite nn s.a
  pure ((s1.setWZ (join s.a (lo nn + 1))).finish 3 13)

/-- The flags of `LD A,I` and `LD A,R` (R214): PV is IFF2, C is kept. -/
def ldSpecialFlags (v : Byte) (iff2 : Bool) (fOld : Byte) : Byte :=
  (fOld &&& 0x01) ||| sz53 v ||| bitIf iff2 0x04

/-- `LD A,I` and `LD A,R` (R214, R215). -/
def ldAccSpecial (q : SpecialReg) (s : State) : Result :=
  .next ((s.setAF8 (s.special q) (ldSpecialFlags (s.special q) s.iff2 s.f)).finish 2 9)

/-- `LD I,A` and `LD R,A` (R216, R217). -/
def ldSpecialAcc (q : SpecialReg) (s : State) : Result := .next ((s.setSpecial q s.a).finish 2 9)

/-- `LD r,xyH` and `LD r,xyL` (R218). -/
def ldRegHalf (d : PlainReg) (x : Index) (h : Half) (s : State) : Result :=
  .next ((s.setReg (plainReg d) (s.half x h)).finish 2 8)

/-- `LD xyH,r` and `LD xyL,r` (R218). -/
def ldHalfReg (x : Index) (h : Half) (r : PlainReg) (s : State) : Result :=
  .next ((s.setHalf x h (s.reg (plainReg r))).finish 2 8)

/-- `LD` between the halves of one index register (R218). -/
def ldHalfHalf (x : Index) (h h' : Half) (s : State) : Result :=
  .next ((s.setHalf x h (s.half x h')).finish 2 8)

/-- `LD xyH,n` and `LD xyL,n` (R219). -/
def ldHalfImm (x : Index) (h : Half) (n : Byte) (s : State) : Result := .next ((s.setHalf x h n).finish 3 11)

/-! ## The meanings -/

/-- LD (BC),A (R210). -/
def execLd_atBC_A (s : State) : Result := ldIndAcc .BC s
/-- LD B,n (R201). -/
def execLd_B_n (n : Byte) (s : State) : Result := ldRegImm .B n s
/-- LD A,(BC) (R208). -/
def execLd_A_atBC (s : State) : Result := ldAccInd .BC s
/-- LD C,n (R201). -/
def execLd_C_n (n : Byte) (s : State) : Result := ldRegImm .C n s
/-- LD (DE),A (R211). -/
def execLd_atDE_A (s : State) : Result := ldIndAcc .DE s
/-- LD D,n (R201). -/
def execLd_D_n (n : Byte) (s : State) : Result := ldRegImm .D n s
/-- LD A,(DE) (R209). -/
def execLd_A_atDE (s : State) : Result := ldAccInd .DE s
/-- LD E,n (R201). -/
def execLd_E_n (n : Byte) (s : State) : Result := ldRegImm .E n s
/-- LD H,n (R201). -/
def execLd_H_n (n : Byte) (s : State) : Result := ldRegImm .H n s
/-- LD L,n (R201). -/
def execLd_L_n (n : Byte) (s : State) : Result := ldRegImm .L n s
/-- LD (nn),A (R213). -/
def execLd_atnn_A (nn : Word) (s : State) : Result := ldAbsAcc nn s
/-- LD (HL),n (R204). -/
def execLd_atHL_n (n : Byte) (s : State) : Result := ldMemImm n s
/-- LD A,(nn) (R212). -/
def execLd_A_atnn (nn : Word) (s : State) : Result := ldAccAbs nn s
/-- LD A,n (R201). -/
def execLd_A_n (n : Byte) (s : State) : Result := ldRegImm .A n s
/-- LD B,B (R200). -/
def execLd_B_B (s : State) : Result := ldRegReg .B .B s
/-- LD B,C (R200). -/
def execLd_B_C (s : State) : Result := ldRegReg .B .C s
/-- LD B,D (R200). -/
def execLd_B_D (s : State) : Result := ldRegReg .B .D s
/-- LD B,E (R200). -/
def execLd_B_E (s : State) : Result := ldRegReg .B .E s
/-- LD B,H (R200). -/
def execLd_B_H (s : State) : Result := ldRegReg .B .H s
/-- LD B,L (R200). -/
def execLd_B_L (s : State) : Result := ldRegReg .B .L s
/-- LD B,(HL) (R202). -/
def execLd_B_atHL (s : State) : Result := ldRegMem .B s
/-- LD B,A (R200). -/
def execLd_B_A (s : State) : Result := ldRegReg .B .A s
/-- LD C,B (R200). -/
def execLd_C_B (s : State) : Result := ldRegReg .C .B s
/-- LD C,C (R200). -/
def execLd_C_C (s : State) : Result := ldRegReg .C .C s
/-- LD C,D (R200). -/
def execLd_C_D (s : State) : Result := ldRegReg .C .D s
/-- LD C,E (R200). -/
def execLd_C_E (s : State) : Result := ldRegReg .C .E s
/-- LD C,H (R200). -/
def execLd_C_H (s : State) : Result := ldRegReg .C .H s
/-- LD C,L (R200). -/
def execLd_C_L (s : State) : Result := ldRegReg .C .L s
/-- LD C,(HL) (R202). -/
def execLd_C_atHL (s : State) : Result := ldRegMem .C s
/-- LD C,A (R200). -/
def execLd_C_A (s : State) : Result := ldRegReg .C .A s
/-- LD D,B (R200). -/
def execLd_D_B (s : State) : Result := ldRegReg .D .B s
/-- LD D,C (R200). -/
def execLd_D_C (s : State) : Result := ldRegReg .D .C s
/-- LD D,D (R200). -/
def execLd_D_D (s : State) : Result := ldRegReg .D .D s
/-- LD D,E (R200). -/
def execLd_D_E (s : State) : Result := ldRegReg .D .E s
/-- LD D,H (R200). -/
def execLd_D_H (s : State) : Result := ldRegReg .D .H s
/-- LD D,L (R200). -/
def execLd_D_L (s : State) : Result := ldRegReg .D .L s
/-- LD D,(HL) (R202). -/
def execLd_D_atHL (s : State) : Result := ldRegMem .D s
/-- LD D,A (R200). -/
def execLd_D_A (s : State) : Result := ldRegReg .D .A s
/-- LD E,B (R200). -/
def execLd_E_B (s : State) : Result := ldRegReg .E .B s
/-- LD E,C (R200). -/
def execLd_E_C (s : State) : Result := ldRegReg .E .C s
/-- LD E,D (R200). -/
def execLd_E_D (s : State) : Result := ldRegReg .E .D s
/-- LD E,E (R200). -/
def execLd_E_E (s : State) : Result := ldRegReg .E .E s
/-- LD E,H (R200). -/
def execLd_E_H (s : State) : Result := ldRegReg .E .H s
/-- LD E,L (R200). -/
def execLd_E_L (s : State) : Result := ldRegReg .E .L s
/-- LD E,(HL) (R202). -/
def execLd_E_atHL (s : State) : Result := ldRegMem .E s
/-- LD E,A (R200). -/
def execLd_E_A (s : State) : Result := ldRegReg .E .A s
/-- LD H,B (R200). -/
def execLd_H_B (s : State) : Result := ldRegReg .H .B s
/-- LD H,C (R200). -/
def execLd_H_C (s : State) : Result := ldRegReg .H .C s
/-- LD H,D (R200). -/
def execLd_H_D (s : State) : Result := ldRegReg .H .D s
/-- LD H,E (R200). -/
def execLd_H_E (s : State) : Result := ldRegReg .H .E s
/-- LD H,H (R200). -/
def execLd_H_H (s : State) : Result := ldRegReg .H .H s
/-- LD H,L (R200). -/
def execLd_H_L (s : State) : Result := ldRegReg .H .L s
/-- LD H,(HL) (R202). -/
def execLd_H_atHL (s : State) : Result := ldRegMem .H s
/-- LD H,A (R200). -/
def execLd_H_A (s : State) : Result := ldRegReg .H .A s
/-- LD L,B (R200). -/
def execLd_L_B (s : State) : Result := ldRegReg .L .B s
/-- LD L,C (R200). -/
def execLd_L_C (s : State) : Result := ldRegReg .L .C s
/-- LD L,D (R200). -/
def execLd_L_D (s : State) : Result := ldRegReg .L .D s
/-- LD L,E (R200). -/
def execLd_L_E (s : State) : Result := ldRegReg .L .E s
/-- LD L,H (R200). -/
def execLd_L_H (s : State) : Result := ldRegReg .L .H s
/-- LD L,L (R200). -/
def execLd_L_L (s : State) : Result := ldRegReg .L .L s
/-- LD L,(HL) (R202). -/
def execLd_L_atHL (s : State) : Result := ldRegMem .L s
/-- LD L,A (R200). -/
def execLd_L_A (s : State) : Result := ldRegReg .L .A s
/-- LD (HL),B (R203). -/
def execLd_atHL_B (s : State) : Result := ldMemReg .B s
/-- LD (HL),C (R203). -/
def execLd_atHL_C (s : State) : Result := ldMemReg .C s
/-- LD (HL),D (R203). -/
def execLd_atHL_D (s : State) : Result := ldMemReg .D s
/-- LD (HL),E (R203). -/
def execLd_atHL_E (s : State) : Result := ldMemReg .E s
/-- LD (HL),H (R203). -/
def execLd_atHL_H (s : State) : Result := ldMemReg .H s
/-- LD (HL),L (R203). -/
def execLd_atHL_L (s : State) : Result := ldMemReg .L s
/-- LD (HL),A (R203). -/
def execLd_atHL_A (s : State) : Result := ldMemReg .A s
/-- LD A,B (R200). -/
def execLd_A_B (s : State) : Result := ldRegReg .A .B s
/-- LD A,C (R200). -/
def execLd_A_C (s : State) : Result := ldRegReg .A .C s
/-- LD A,D (R200). -/
def execLd_A_D (s : State) : Result := ldRegReg .A .D s
/-- LD A,E (R200). -/
def execLd_A_E (s : State) : Result := ldRegReg .A .E s
/-- LD A,H (R200). -/
def execLd_A_H (s : State) : Result := ldRegReg .A .H s
/-- LD A,L (R200). -/
def execLd_A_L (s : State) : Result := ldRegReg .A .L s
/-- LD A,(HL) (R202). -/
def execLd_A_atHL (s : State) : Result := ldRegMem .A s
/-- LD A,A (R200). -/
def execLd_A_A (s : State) : Result := ldRegReg .A .A s
/-- LD I,A (R216). -/
def execLd_I_A (s : State) : Result := ldSpecialAcc .I s
/-- LD R,A (R217). -/
def execLd_R_A (s : State) : Result := ldSpecialAcc .R s
/-- LD A,I (R214). -/
def execLd_A_I (s : State) : Result := ldAccSpecial .I s
/-- LD A,R (R215). -/
def execLd_A_R (s : State) : Result := ldAccSpecial .R s
/-- LD IXH,n (R219). -/
def execLd_IXH_n (n : Byte) (s : State) : Result := ldHalfImm .IX .H n s
/-- LD IXL,n (R219). -/
def execLd_IXL_n (n : Byte) (s : State) : Result := ldHalfImm .IX .L n s
/-- LD (IX+d),n (R207). -/
def execLd_atIXd_n (d : Byte) (n : Byte) (s : State) : Result := ldIdxImm .IX d n s
/-- LD B,IXH (R218). -/
def execLd_B_IXH (s : State) : Result := ldRegHalf .B .IX .H s
/-- LD B,IXL (R218). -/
def execLd_B_IXL (s : State) : Result := ldRegHalf .B .IX .L s
/-- LD B,(IX+d) (R205). -/
def execLd_B_atIXd (d : Byte) (s : State) : Result := ldRegIdx .B .IX d s
/-- LD C,IXH (R218). -/
def execLd_C_IXH (s : State) : Result := ldRegHalf .C .IX .H s
/-- LD C,IXL (R218). -/
def execLd_C_IXL (s : State) : Result := ldRegHalf .C .IX .L s
/-- LD C,(IX+d) (R205). -/
def execLd_C_atIXd (d : Byte) (s : State) : Result := ldRegIdx .C .IX d s
/-- LD D,IXH (R218). -/
def execLd_D_IXH (s : State) : Result := ldRegHalf .D .IX .H s
/-- LD D,IXL (R218). -/
def execLd_D_IXL (s : State) : Result := ldRegHalf .D .IX .L s
/-- LD D,(IX+d) (R205). -/
def execLd_D_atIXd (d : Byte) (s : State) : Result := ldRegIdx .D .IX d s
/-- LD E,IXH (R218). -/
def execLd_E_IXH (s : State) : Result := ldRegHalf .E .IX .H s
/-- LD E,IXL (R218). -/
def execLd_E_IXL (s : State) : Result := ldRegHalf .E .IX .L s
/-- LD E,(IX+d) (R205). -/
def execLd_E_atIXd (d : Byte) (s : State) : Result := ldRegIdx .E .IX d s
/-- LD IXH,B (R218). -/
def execLd_IXH_B (s : State) : Result := ldHalfReg .IX .H .B s
/-- LD IXH,C (R218). -/
def execLd_IXH_C (s : State) : Result := ldHalfReg .IX .H .C s
/-- LD IXH,D (R218). -/
def execLd_IXH_D (s : State) : Result := ldHalfReg .IX .H .D s
/-- LD IXH,E (R218). -/
def execLd_IXH_E (s : State) : Result := ldHalfReg .IX .H .E s
/-- LD IXH,IXH (R218). -/
def execLd_IXH_IXH (s : State) : Result := ldHalfHalf .IX .H .H s
/-- LD IXH,IXL (R218). -/
def execLd_IXH_IXL (s : State) : Result := ldHalfHalf .IX .H .L s
/-- LD H,(IX+d) (R205). -/
def execLd_H_atIXd (d : Byte) (s : State) : Result := ldRegIdx .H .IX d s
/-- LD IXH,A (R218). -/
def execLd_IXH_A (s : State) : Result := ldHalfReg .IX .H .A s
/-- LD IXL,B (R218). -/
def execLd_IXL_B (s : State) : Result := ldHalfReg .IX .L .B s
/-- LD IXL,C (R218). -/
def execLd_IXL_C (s : State) : Result := ldHalfReg .IX .L .C s
/-- LD IXL,D (R218). -/
def execLd_IXL_D (s : State) : Result := ldHalfReg .IX .L .D s
/-- LD IXL,E (R218). -/
def execLd_IXL_E (s : State) : Result := ldHalfReg .IX .L .E s
/-- LD IXL,IXH (R218). -/
def execLd_IXL_IXH (s : State) : Result := ldHalfHalf .IX .L .H s
/-- LD IXL,IXL (R218). -/
def execLd_IXL_IXL (s : State) : Result := ldHalfHalf .IX .L .L s
/-- LD L,(IX+d) (R205). -/
def execLd_L_atIXd (d : Byte) (s : State) : Result := ldRegIdx .L .IX d s
/-- LD IXL,A (R218). -/
def execLd_IXL_A (s : State) : Result := ldHalfReg .IX .L .A s
/-- LD (IX+d),B (R206). -/
def execLd_atIXd_B (d : Byte) (s : State) : Result := ldIdxReg .IX d .B s
/-- LD (IX+d),C (R206). -/
def execLd_atIXd_C (d : Byte) (s : State) : Result := ldIdxReg .IX d .C s
/-- LD (IX+d),D (R206). -/
def execLd_atIXd_D (d : Byte) (s : State) : Result := ldIdxReg .IX d .D s
/-- LD (IX+d),E (R206). -/
def execLd_atIXd_E (d : Byte) (s : State) : Result := ldIdxReg .IX d .E s
/-- LD (IX+d),H (R206). -/
def execLd_atIXd_H (d : Byte) (s : State) : Result := ldIdxReg .IX d .H s
/-- LD (IX+d),L (R206). -/
def execLd_atIXd_L (d : Byte) (s : State) : Result := ldIdxReg .IX d .L s
/-- LD (IX+d),A (R206). -/
def execLd_atIXd_A (d : Byte) (s : State) : Result := ldIdxReg .IX d .A s
/-- LD A,IXH (R218). -/
def execLd_A_IXH (s : State) : Result := ldRegHalf .A .IX .H s
/-- LD A,IXL (R218). -/
def execLd_A_IXL (s : State) : Result := ldRegHalf .A .IX .L s
/-- LD A,(IX+d) (R205). -/
def execLd_A_atIXd (d : Byte) (s : State) : Result := ldRegIdx .A .IX d s
/-- LD IYH,n (R219). -/
def execLd_IYH_n (n : Byte) (s : State) : Result := ldHalfImm .IY .H n s
/-- LD IYL,n (R219). -/
def execLd_IYL_n (n : Byte) (s : State) : Result := ldHalfImm .IY .L n s
/-- LD (IY+d),n (R207). -/
def execLd_atIYd_n (d : Byte) (n : Byte) (s : State) : Result := ldIdxImm .IY d n s
/-- LD B,IYH (R218). -/
def execLd_B_IYH (s : State) : Result := ldRegHalf .B .IY .H s
/-- LD B,IYL (R218). -/
def execLd_B_IYL (s : State) : Result := ldRegHalf .B .IY .L s
/-- LD B,(IY+d) (R205). -/
def execLd_B_atIYd (d : Byte) (s : State) : Result := ldRegIdx .B .IY d s
/-- LD C,IYH (R218). -/
def execLd_C_IYH (s : State) : Result := ldRegHalf .C .IY .H s
/-- LD C,IYL (R218). -/
def execLd_C_IYL (s : State) : Result := ldRegHalf .C .IY .L s
/-- LD C,(IY+d) (R205). -/
def execLd_C_atIYd (d : Byte) (s : State) : Result := ldRegIdx .C .IY d s
/-- LD D,IYH (R218). -/
def execLd_D_IYH (s : State) : Result := ldRegHalf .D .IY .H s
/-- LD D,IYL (R218). -/
def execLd_D_IYL (s : State) : Result := ldRegHalf .D .IY .L s
/-- LD D,(IY+d) (R205). -/
def execLd_D_atIYd (d : Byte) (s : State) : Result := ldRegIdx .D .IY d s
/-- LD E,IYH (R218). -/
def execLd_E_IYH (s : State) : Result := ldRegHalf .E .IY .H s
/-- LD E,IYL (R218). -/
def execLd_E_IYL (s : State) : Result := ldRegHalf .E .IY .L s
/-- LD E,(IY+d) (R205). -/
def execLd_E_atIYd (d : Byte) (s : State) : Result := ldRegIdx .E .IY d s
/-- LD IYH,B (R218). -/
def execLd_IYH_B (s : State) : Result := ldHalfReg .IY .H .B s
/-- LD IYH,C (R218). -/
def execLd_IYH_C (s : State) : Result := ldHalfReg .IY .H .C s
/-- LD IYH,D (R218). -/
def execLd_IYH_D (s : State) : Result := ldHalfReg .IY .H .D s
/-- LD IYH,E (R218). -/
def execLd_IYH_E (s : State) : Result := ldHalfReg .IY .H .E s
/-- LD IYH,IYH (R218). -/
def execLd_IYH_IYH (s : State) : Result := ldHalfHalf .IY .H .H s
/-- LD IYH,IYL (R218). -/
def execLd_IYH_IYL (s : State) : Result := ldHalfHalf .IY .H .L s
/-- LD H,(IY+d) (R205). -/
def execLd_H_atIYd (d : Byte) (s : State) : Result := ldRegIdx .H .IY d s
/-- LD IYH,A (R218). -/
def execLd_IYH_A (s : State) : Result := ldHalfReg .IY .H .A s
/-- LD IYL,B (R218). -/
def execLd_IYL_B (s : State) : Result := ldHalfReg .IY .L .B s
/-- LD IYL,C (R218). -/
def execLd_IYL_C (s : State) : Result := ldHalfReg .IY .L .C s
/-- LD IYL,D (R218). -/
def execLd_IYL_D (s : State) : Result := ldHalfReg .IY .L .D s
/-- LD IYL,E (R218). -/
def execLd_IYL_E (s : State) : Result := ldHalfReg .IY .L .E s
/-- LD IYL,IYH (R218). -/
def execLd_IYL_IYH (s : State) : Result := ldHalfHalf .IY .L .H s
/-- LD IYL,IYL (R218). -/
def execLd_IYL_IYL (s : State) : Result := ldHalfHalf .IY .L .L s
/-- LD L,(IY+d) (R205). -/
def execLd_L_atIYd (d : Byte) (s : State) : Result := ldRegIdx .L .IY d s
/-- LD IYL,A (R218). -/
def execLd_IYL_A (s : State) : Result := ldHalfReg .IY .L .A s
/-- LD (IY+d),B (R206). -/
def execLd_atIYd_B (d : Byte) (s : State) : Result := ldIdxReg .IY d .B s
/-- LD (IY+d),C (R206). -/
def execLd_atIYd_C (d : Byte) (s : State) : Result := ldIdxReg .IY d .C s
/-- LD (IY+d),D (R206). -/
def execLd_atIYd_D (d : Byte) (s : State) : Result := ldIdxReg .IY d .D s
/-- LD (IY+d),E (R206). -/
def execLd_atIYd_E (d : Byte) (s : State) : Result := ldIdxReg .IY d .E s
/-- LD (IY+d),H (R206). -/
def execLd_atIYd_H (d : Byte) (s : State) : Result := ldIdxReg .IY d .H s
/-- LD (IY+d),L (R206). -/
def execLd_atIYd_L (d : Byte) (s : State) : Result := ldIdxReg .IY d .L s
/-- LD (IY+d),A (R206). -/
def execLd_atIYd_A (d : Byte) (s : State) : Result := ldIdxReg .IY d .A s
/-- LD A,IYH (R218). -/
def execLd_A_IYH (s : State) : Result := ldRegHalf .A .IY .H s
/-- LD A,IYL (R218). -/
def execLd_A_IYL (s : State) : Result := ldRegHalf .A .IY .L s
/-- LD A,(IY+d) (R205). -/
def execLd_A_atIYd (d : Byte) (s : State) : Result := ldRegIdx .A .IY d s

end Sys2Proof.Machine
end

