-- ==== Sys2Proof/Machine/Rotate.lean ====
section
/-! DEFINITION. Rotates and shifts (45_rotate_shift_bit.md, R320 to R332, R338 to R340): the shared operations, then one
meaning per instruction. -/

namespace Sys2Proof.Machine

/-- The rotate an accumulator rotate makes of A (R321 to R324). -/
def accRotOp : AccRot → RotOp
  | .rlca => .rlc | .rrca => .rrc | .rla => .rl | .rra => .rr

/-- The flags of an accumulator rotate: S, Z, PV kept, X and Y from the new A, C the displaced bit (45_rotate_shift_bit.md
section 2). -/
def accRotFlags (r f fOld : Byte) : Byte := (fOld &&& 0xC4) ||| (r &&& 0x28) ||| (f &&& 0x01)

/-- `RLCA`, `RRCA`, `RLA`, `RRA` (R321 to R324). -/
def accRot (k : AccRot) (s : State) : Result :=
  .next ((s.setAF8 (rot8 (accRotOp k) s.a (flagC s.f)).1
    (accRotFlags (rot8 (accRotOp k) s.a (flagC s.f)).1 (rot8 (accRotOp k) s.a (flagC s.f)).2 s.f)).finish 1 4)

/-- A rotate or shift of a register (R320, R325 to R332). -/
def rotReg (k : RotOp) (r : Reg8) (s : State) : Result :=
  .next (((s.setReg r (rot8 k (s.reg r) (flagC s.f)).1).setF (rot8 k (s.reg r) (flagC s.f)).2).finish 2 8)

/-- A rotate or shift of `(HL)` (R320). -/
def rotMem (k : RotOp) (s : State) : Result := outcome do
  let v ← s.memRead s.hl
  let s1 ← (s.setF (rot8 k v (flagC s.f)).2).memWrite s.hl (rot8 k v (flagC s.f)).1
  pure (s1.finish 2 15)

/-- A rotate or shift of `(xy+d)` (R340), with the copy to a register if the instruction has one. -/
def rotIdx (k : RotOp) (x : Index) (d : Byte) (copy : Option Reg8) (s : State) : Result := outcome do
  let s1 := s.setWZ (s.ea x d)
  let v ← s1.memRead (s.ea x d)
  let s2 ← (s1.setF (rot8 k v (flagC s.f)).2).memWrite (s.ea x d) (rot8 k v (flagC s.f)).1
  pure ((s2.copyTo copy (rot8 k v (flagC s.f)).1).finish 4 23)

/-- The flags of RLD and RRD, from the new A (R338, R339). -/
def digitRotFlags (a fOld : Byte) : Byte := (fOld &&& 0x01) ||| sz53p a

/-- The byte RLD stores (R338). -/
def rldByte (t a : Byte) : Byte := (t <<< 4) ||| (a &&& 0x0F)
/-- The new A of RLD (R338). -/
def rldAcc (t a : Byte) : Byte := (a &&& 0xF0) ||| (t >>> 4)
/-- The byte RRD stores (R339). -/
def rrdByte (t a : Byte) : Byte := (a <<< 4) ||| (t >>> 4)
/-- The new A of RRD (R339). -/
def rrdAcc (t a : Byte) : Byte := (a &&& 0xF0) ||| (t &&& 0x0F)

/-! ## The meanings -/

/-- `RLD` (R338). -/
def execRld (s : State) : Result := outcome do
  let t ← s.memRead s.hl
  let s1 ← s.memWrite s.hl (rldByte t s.a)
  pure (((s1.setAF8 (rldAcc t s.a) (digitRotFlags (rldAcc t s.a) s.f)).setWZ (s.hl + 1)).finish 2 18)

/-- `RRD` (R339). -/
def execRrd (s : State) : Result := outcome do
  let t ← s.memRead s.hl
  let s1 ← s.memWrite s.hl (rrdByte t s.a)
  pure (((s1.setAF8 (rrdAcc t s.a) (digitRotFlags (rrdAcc t s.a) s.f)).setWZ (s.hl + 1)).finish 2 18)

/-- RLCA (R321). -/
def execRlca (s : State) : Result := accRot .rlca s
/-- RRCA (R323). -/
def execRrca (s : State) : Result := accRot .rrca s
/-- RLA (R322). -/
def execRla (s : State) : Result := accRot .rla s
/-- RRA (R324). -/
def execRra (s : State) : Result := accRot .rra s
/-- RLC B (R325). -/
def execRlc_B (s : State) : Result := rotReg .rlc .B s
/-- RLC C (R325). -/
def execRlc_C (s : State) : Result := rotReg .rlc .C s
/-- RLC D (R325). -/
def execRlc_D (s : State) : Result := rotReg .rlc .D s
/-- RLC E (R325). -/
def execRlc_E (s : State) : Result := rotReg .rlc .E s
/-- RLC H (R325). -/
def execRlc_H (s : State) : Result := rotReg .rlc .H s
/-- RLC L (R325). -/
def execRlc_L (s : State) : Result := rotReg .rlc .L s
/-- RLC (HL) (R325). -/
def execRlc_atHL (s : State) : Result := rotMem .rlc s
/-- RLC A (R325). -/
def execRlc_A (s : State) : Result := rotReg .rlc .A s
/-- RRC B (R326). -/
def execRrc_B (s : State) : Result := rotReg .rrc .B s
/-- RRC C (R326). -/
def execRrc_C (s : State) : Result := rotReg .rrc .C s
/-- RRC D (R326). -/
def execRrc_D (s : State) : Result := rotReg .rrc .D s
/-- RRC E (R326). -/
def execRrc_E (s : State) : Result := rotReg .rrc .E s
/-- RRC H (R326). -/
def execRrc_H (s : State) : Result := rotReg .rrc .H s
/-- RRC L (R326). -/
def execRrc_L (s : State) : Result := rotReg .rrc .L s
/-- RRC (HL) (R326). -/
def execRrc_atHL (s : State) : Result := rotMem .rrc s
/-- RRC A (R326). -/
def execRrc_A (s : State) : Result := rotReg .rrc .A s
/-- RL B (R327). -/
def execRl_B (s : State) : Result := rotReg .rl .B s
/-- RL C (R327). -/
def execRl_C (s : State) : Result := rotReg .rl .C s
/-- RL D (R327). -/
def execRl_D (s : State) : Result := rotReg .rl .D s
/-- RL E (R327). -/
def execRl_E (s : State) : Result := rotReg .rl .E s
/-- RL H (R327). -/
def execRl_H (s : State) : Result := rotReg .rl .H s
/-- RL L (R327). -/
def execRl_L (s : State) : Result := rotReg .rl .L s
/-- RL (HL) (R327). -/
def execRl_atHL (s : State) : Result := rotMem .rl s
/-- RL A (R327). -/
def execRl_A (s : State) : Result := rotReg .rl .A s
/-- RR B (R328). -/
def execRr_B (s : State) : Result := rotReg .rr .B s
/-- RR C (R328). -/
def execRr_C (s : State) : Result := rotReg .rr .C s
/-- RR D (R328). -/
def execRr_D (s : State) : Result := rotReg .rr .D s
/-- RR E (R328). -/
def execRr_E (s : State) : Result := rotReg .rr .E s
/-- RR H (R328). -/
def execRr_H (s : State) : Result := rotReg .rr .H s
/-- RR L (R328). -/
def execRr_L (s : State) : Result := rotReg .rr .L s
/-- RR (HL) (R328). -/
def execRr_atHL (s : State) : Result := rotMem .rr s
/-- RR A (R328). -/
def execRr_A (s : State) : Result := rotReg .rr .A s
/-- SLA B (R329). -/
def execSla_B (s : State) : Result := rotReg .sla .B s
/-- SLA C (R329). -/
def execSla_C (s : State) : Result := rotReg .sla .C s
/-- SLA D (R329). -/
def execSla_D (s : State) : Result := rotReg .sla .D s
/-- SLA E (R329). -/
def execSla_E (s : State) : Result := rotReg .sla .E s
/-- SLA H (R329). -/
def execSla_H (s : State) : Result := rotReg .sla .H s
/-- SLA L (R329). -/
def execSla_L (s : State) : Result := rotReg .sla .L s
/-- SLA (HL) (R329). -/
def execSla_atHL (s : State) : Result := rotMem .sla s
/-- SLA A (R329). -/
def execSla_A (s : State) : Result := rotReg .sla .A s
/-- SRA B (R330). -/
def execSra_B (s : State) : Result := rotReg .sra .B s
/-- SRA C (R330). -/
def execSra_C (s : State) : Result := rotReg .sra .C s
/-- SRA D (R330). -/
def execSra_D (s : State) : Result := rotReg .sra .D s
/-- SRA E (R330). -/
def execSra_E (s : State) : Result := rotReg .sra .E s
/-- SRA H (R330). -/
def execSra_H (s : State) : Result := rotReg .sra .H s
/-- SRA L (R330). -/
def execSra_L (s : State) : Result := rotReg .sra .L s
/-- SRA (HL) (R330). -/
def execSra_atHL (s : State) : Result := rotMem .sra s
/-- SRA A (R330). -/
def execSra_A (s : State) : Result := rotReg .sra .A s
/-- SLL B (R331). -/
def execSll_B (s : State) : Result := rotReg .sll .B s
/-- SLL C (R331). -/
def execSll_C (s : State) : Result := rotReg .sll .C s
/-- SLL D (R331). -/
def execSll_D (s : State) : Result := rotReg .sll .D s
/-- SLL E (R331). -/
def execSll_E (s : State) : Result := rotReg .sll .E s
/-- SLL H (R331). -/
def execSll_H (s : State) : Result := rotReg .sll .H s
/-- SLL L (R331). -/
def execSll_L (s : State) : Result := rotReg .sll .L s
/-- SLL (HL) (R331). -/
def execSll_atHL (s : State) : Result := rotMem .sll s
/-- SLL A (R331). -/
def execSll_A (s : State) : Result := rotReg .sll .A s
/-- SRL B (R332). -/
def execSrl_B (s : State) : Result := rotReg .srl .B s
/-- SRL C (R332). -/
def execSrl_C (s : State) : Result := rotReg .srl .C s
/-- SRL D (R332). -/
def execSrl_D (s : State) : Result := rotReg .srl .D s
/-- SRL E (R332). -/
def execSrl_E (s : State) : Result := rotReg .srl .E s
/-- SRL H (R332). -/
def execSrl_H (s : State) : Result := rotReg .srl .H s
/-- SRL L (R332). -/
def execSrl_L (s : State) : Result := rotReg .srl .L s
/-- SRL (HL) (R332). -/
def execSrl_atHL (s : State) : Result := rotMem .srl s
/-- SRL A (R332). -/
def execSrl_A (s : State) : Result := rotReg .srl .A s
/-- RLC (IX+d) -> B (R325). -/
def execRlc_atIXd_to_B (d : Byte) (s : State) : Result := rotIdx .rlc .IX d (some .B) s
/-- RLC (IX+d) -> C (R325). -/
def execRlc_atIXd_to_C (d : Byte) (s : State) : Result := rotIdx .rlc .IX d (some .C) s
/-- RLC (IX+d) -> D (R325). -/
def execRlc_atIXd_to_D (d : Byte) (s : State) : Result := rotIdx .rlc .IX d (some .D) s
/-- RLC (IX+d) -> E (R325). -/
def execRlc_atIXd_to_E (d : Byte) (s : State) : Result := rotIdx .rlc .IX d (some .E) s
/-- RLC (IX+d) -> H (R325). -/
def execRlc_atIXd_to_H (d : Byte) (s : State) : Result := rotIdx .rlc .IX d (some .H) s
/-- RLC (IX+d) -> L (R325). -/
def execRlc_atIXd_to_L (d : Byte) (s : State) : Result := rotIdx .rlc .IX d (some .L) s
/-- RLC (IX+d) (R325). -/
def execRlc_atIXd (d : Byte) (s : State) : Result := rotIdx .rlc .IX d none s
/-- RLC (IX+d) -> A (R325). -/
def execRlc_atIXd_to_A (d : Byte) (s : State) : Result := rotIdx .rlc .IX d (some .A) s
/-- RRC (IX+d) -> B (R326). -/
def execRrc_atIXd_to_B (d : Byte) (s : State) : Result := rotIdx .rrc .IX d (some .B) s
/-- RRC (IX+d) -> C (R326). -/
def execRrc_atIXd_to_C (d : Byte) (s : State) : Result := rotIdx .rrc .IX d (some .C) s
/-- RRC (IX+d) -> D (R326). -/
def execRrc_atIXd_to_D (d : Byte) (s : State) : Result := rotIdx .rrc .IX d (some .D) s
/-- RRC (IX+d) -> E (R326). -/
def execRrc_atIXd_to_E (d : Byte) (s : State) : Result := rotIdx .rrc .IX d (some .E) s
/-- RRC (IX+d) -> H (R326). -/
def execRrc_atIXd_to_H (d : Byte) (s : State) : Result := rotIdx .rrc .IX d (some .H) s
/-- RRC (IX+d) -> L (R326). -/
def execRrc_atIXd_to_L (d : Byte) (s : State) : Result := rotIdx .rrc .IX d (some .L) s
/-- RRC (IX+d) (R326). -/
def execRrc_atIXd (d : Byte) (s : State) : Result := rotIdx .rrc .IX d none s
/-- RRC (IX+d) -> A (R326). -/
def execRrc_atIXd_to_A (d : Byte) (s : State) : Result := rotIdx .rrc .IX d (some .A) s
/-- RL (IX+d) -> B (R327). -/
def execRl_atIXd_to_B (d : Byte) (s : State) : Result := rotIdx .rl .IX d (some .B) s
/-- RL (IX+d) -> C (R327). -/
def execRl_atIXd_to_C (d : Byte) (s : State) : Result := rotIdx .rl .IX d (some .C) s
/-- RL (IX+d) -> D (R327). -/
def execRl_atIXd_to_D (d : Byte) (s : State) : Result := rotIdx .rl .IX d (some .D) s
/-- RL (IX+d) -> E (R327). -/
def execRl_atIXd_to_E (d : Byte) (s : State) : Result := rotIdx .rl .IX d (some .E) s
/-- RL (IX+d) -> H (R327). -/
def execRl_atIXd_to_H (d : Byte) (s : State) : Result := rotIdx .rl .IX d (some .H) s
/-- RL (IX+d) -> L (R327). -/
def execRl_atIXd_to_L (d : Byte) (s : State) : Result := rotIdx .rl .IX d (some .L) s
/-- RL (IX+d) (R327). -/
def execRl_atIXd (d : Byte) (s : State) : Result := rotIdx .rl .IX d none s
/-- RL (IX+d) -> A (R327). -/
def execRl_atIXd_to_A (d : Byte) (s : State) : Result := rotIdx .rl .IX d (some .A) s
/-- RR (IX+d) -> B (R328). -/
def execRr_atIXd_to_B (d : Byte) (s : State) : Result := rotIdx .rr .IX d (some .B) s
/-- RR (IX+d) -> C (R328). -/
def execRr_atIXd_to_C (d : Byte) (s : State) : Result := rotIdx .rr .IX d (some .C) s
/-- RR (IX+d) -> D (R328). -/
def execRr_atIXd_to_D (d : Byte) (s : State) : Result := rotIdx .rr .IX d (some .D) s
/-- RR (IX+d) -> E (R328). -/
def execRr_atIXd_to_E (d : Byte) (s : State) : Result := rotIdx .rr .IX d (some .E) s
/-- RR (IX+d) -> H (R328). -/
def execRr_atIXd_to_H (d : Byte) (s : State) : Result := rotIdx .rr .IX d (some .H) s
/-- RR (IX+d) -> L (R328). -/
def execRr_atIXd_to_L (d : Byte) (s : State) : Result := rotIdx .rr .IX d (some .L) s
/-- RR (IX+d) (R328). -/
def execRr_atIXd (d : Byte) (s : State) : Result := rotIdx .rr .IX d none s
/-- RR (IX+d) -> A (R328). -/
def execRr_atIXd_to_A (d : Byte) (s : State) : Result := rotIdx .rr .IX d (some .A) s
/-- SLA (IX+d) -> B (R329). -/
def execSla_atIXd_to_B (d : Byte) (s : State) : Result := rotIdx .sla .IX d (some .B) s
/-- SLA (IX+d) -> C (R329). -/
def execSla_atIXd_to_C (d : Byte) (s : State) : Result := rotIdx .sla .IX d (some .C) s
/-- SLA (IX+d) -> D (R329). -/
def execSla_atIXd_to_D (d : Byte) (s : State) : Result := rotIdx .sla .IX d (some .D) s
/-- SLA (IX+d) -> E (R329). -/
def execSla_atIXd_to_E (d : Byte) (s : State) : Result := rotIdx .sla .IX d (some .E) s
/-- SLA (IX+d) -> H (R329). -/
def execSla_atIXd_to_H (d : Byte) (s : State) : Result := rotIdx .sla .IX d (some .H) s
/-- SLA (IX+d) -> L (R329). -/
def execSla_atIXd_to_L (d : Byte) (s : State) : Result := rotIdx .sla .IX d (some .L) s
/-- SLA (IX+d) (R329). -/
def execSla_atIXd (d : Byte) (s : State) : Result := rotIdx .sla .IX d none s
/-- SLA (IX+d) -> A (R329). -/
def execSla_atIXd_to_A (d : Byte) (s : State) : Result := rotIdx .sla .IX d (some .A) s
/-- SRA (IX+d) -> B (R330). -/
def execSra_atIXd_to_B (d : Byte) (s : State) : Result := rotIdx .sra .IX d (some .B) s
/-- SRA (IX+d) -> C (R330). -/
def execSra_atIXd_to_C (d : Byte) (s : State) : Result := rotIdx .sra .IX d (some .C) s
/-- SRA (IX+d) -> D (R330). -/
def execSra_atIXd_to_D (d : Byte) (s : State) : Result := rotIdx .sra .IX d (some .D) s
/-- SRA (IX+d) -> E (R330). -/
def execSra_atIXd_to_E (d : Byte) (s : State) : Result := rotIdx .sra .IX d (some .E) s
/-- SRA (IX+d) -> H (R330). -/
def execSra_atIXd_to_H (d : Byte) (s : State) : Result := rotIdx .sra .IX d (some .H) s
/-- SRA (IX+d) -> L (R330). -/
def execSra_atIXd_to_L (d : Byte) (s : State) : Result := rotIdx .sra .IX d (some .L) s
/-- SRA (IX+d) (R330). -/
def execSra_atIXd (d : Byte) (s : State) : Result := rotIdx .sra .IX d none s
/-- SRA (IX+d) -> A (R330). -/
def execSra_atIXd_to_A (d : Byte) (s : State) : Result := rotIdx .sra .IX d (some .A) s
/-- SLL (IX+d) -> B (R331). -/
def execSll_atIXd_to_B (d : Byte) (s : State) : Result := rotIdx .sll .IX d (some .B) s
/-- SLL (IX+d) -> C (R331). -/
def execSll_atIXd_to_C (d : Byte) (s : State) : Result := rotIdx .sll .IX d (some .C) s
/-- SLL (IX+d) -> D (R331). -/
def execSll_atIXd_to_D (d : Byte) (s : State) : Result := rotIdx .sll .IX d (some .D) s
/-- SLL (IX+d) -> E (R331). -/
def execSll_atIXd_to_E (d : Byte) (s : State) : Result := rotIdx .sll .IX d (some .E) s
/-- SLL (IX+d) -> H (R331). -/
def execSll_atIXd_to_H (d : Byte) (s : State) : Result := rotIdx .sll .IX d (some .H) s
/-- SLL (IX+d) -> L (R331). -/
def execSll_atIXd_to_L (d : Byte) (s : State) : Result := rotIdx .sll .IX d (some .L) s
/-- SLL (IX+d) (R331). -/
def execSll_atIXd (d : Byte) (s : State) : Result := rotIdx .sll .IX d none s
/-- SLL (IX+d) -> A (R331). -/
def execSll_atIXd_to_A (d : Byte) (s : State) : Result := rotIdx .sll .IX d (some .A) s
/-- SRL (IX+d) -> B (R332). -/
def execSrl_atIXd_to_B (d : Byte) (s : State) : Result := rotIdx .srl .IX d (some .B) s
/-- SRL (IX+d) -> C (R332). -/
def execSrl_atIXd_to_C (d : Byte) (s : State) : Result := rotIdx .srl .IX d (some .C) s
/-- SRL (IX+d) -> D (R332). -/
def execSrl_atIXd_to_D (d : Byte) (s : State) : Result := rotIdx .srl .IX d (some .D) s
/-- SRL (IX+d) -> E (R332). -/
def execSrl_atIXd_to_E (d : Byte) (s : State) : Result := rotIdx .srl .IX d (some .E) s
/-- SRL (IX+d) -> H (R332). -/
def execSrl_atIXd_to_H (d : Byte) (s : State) : Result := rotIdx .srl .IX d (some .H) s
/-- SRL (IX+d) -> L (R332). -/
def execSrl_atIXd_to_L (d : Byte) (s : State) : Result := rotIdx .srl .IX d (some .L) s
/-- SRL (IX+d) (R332). -/
def execSrl_atIXd (d : Byte) (s : State) : Result := rotIdx .srl .IX d none s
/-- SRL (IX+d) -> A (R332). -/
def execSrl_atIXd_to_A (d : Byte) (s : State) : Result := rotIdx .srl .IX d (some .A) s
/-- RLC (IY+d) -> B (R325). -/
def execRlc_atIYd_to_B (d : Byte) (s : State) : Result := rotIdx .rlc .IY d (some .B) s
/-- RLC (IY+d) -> C (R325). -/
def execRlc_atIYd_to_C (d : Byte) (s : State) : Result := rotIdx .rlc .IY d (some .C) s
/-- RLC (IY+d) -> D (R325). -/
def execRlc_atIYd_to_D (d : Byte) (s : State) : Result := rotIdx .rlc .IY d (some .D) s
/-- RLC (IY+d) -> E (R325). -/
def execRlc_atIYd_to_E (d : Byte) (s : State) : Result := rotIdx .rlc .IY d (some .E) s
/-- RLC (IY+d) -> H (R325). -/
def execRlc_atIYd_to_H (d : Byte) (s : State) : Result := rotIdx .rlc .IY d (some .H) s
/-- RLC (IY+d) -> L (R325). -/
def execRlc_atIYd_to_L (d : Byte) (s : State) : Result := rotIdx .rlc .IY d (some .L) s
/-- RLC (IY+d) (R325). -/
def execRlc_atIYd (d : Byte) (s : State) : Result := rotIdx .rlc .IY d none s
/-- RLC (IY+d) -> A (R325). -/
def execRlc_atIYd_to_A (d : Byte) (s : State) : Result := rotIdx .rlc .IY d (some .A) s
/-- RRC (IY+d) -> B (R326). -/
def execRrc_atIYd_to_B (d : Byte) (s : State) : Result := rotIdx .rrc .IY d (some .B) s
/-- RRC (IY+d) -> C (R326). -/
def execRrc_atIYd_to_C (d : Byte) (s : State) : Result := rotIdx .rrc .IY d (some .C) s
/-- RRC (IY+d) -> D (R326). -/
def execRrc_atIYd_to_D (d : Byte) (s : State) : Result := rotIdx .rrc .IY d (some .D) s
/-- RRC (IY+d) -> E (R326). -/
def execRrc_atIYd_to_E (d : Byte) (s : State) : Result := rotIdx .rrc .IY d (some .E) s
/-- RRC (IY+d) -> H (R326). -/
def execRrc_atIYd_to_H (d : Byte) (s : State) : Result := rotIdx .rrc .IY d (some .H) s
/-- RRC (IY+d) -> L (R326). -/
def execRrc_atIYd_to_L (d : Byte) (s : State) : Result := rotIdx .rrc .IY d (some .L) s
/-- RRC (IY+d) (R326). -/
def execRrc_atIYd (d : Byte) (s : State) : Result := rotIdx .rrc .IY d none s
/-- RRC (IY+d) -> A (R326). -/
def execRrc_atIYd_to_A (d : Byte) (s : State) : Result := rotIdx .rrc .IY d (some .A) s
/-- RL (IY+d) -> B (R327). -/
def execRl_atIYd_to_B (d : Byte) (s : State) : Result := rotIdx .rl .IY d (some .B) s
/-- RL (IY+d) -> C (R327). -/
def execRl_atIYd_to_C (d : Byte) (s : State) : Result := rotIdx .rl .IY d (some .C) s
/-- RL (IY+d) -> D (R327). -/
def execRl_atIYd_to_D (d : Byte) (s : State) : Result := rotIdx .rl .IY d (some .D) s
/-- RL (IY+d) -> E (R327). -/
def execRl_atIYd_to_E (d : Byte) (s : State) : Result := rotIdx .rl .IY d (some .E) s
/-- RL (IY+d) -> H (R327). -/
def execRl_atIYd_to_H (d : Byte) (s : State) : Result := rotIdx .rl .IY d (some .H) s
/-- RL (IY+d) -> L (R327). -/
def execRl_atIYd_to_L (d : Byte) (s : State) : Result := rotIdx .rl .IY d (some .L) s
/-- RL (IY+d) (R327). -/
def execRl_atIYd (d : Byte) (s : State) : Result := rotIdx .rl .IY d none s
/-- RL (IY+d) -> A (R327). -/
def execRl_atIYd_to_A (d : Byte) (s : State) : Result := rotIdx .rl .IY d (some .A) s
/-- RR (IY+d) -> B (R328). -/
def execRr_atIYd_to_B (d : Byte) (s : State) : Result := rotIdx .rr .IY d (some .B) s
/-- RR (IY+d) -> C (R328). -/
def execRr_atIYd_to_C (d : Byte) (s : State) : Result := rotIdx .rr .IY d (some .C) s
/-- RR (IY+d) -> D (R328). -/
def execRr_atIYd_to_D (d : Byte) (s : State) : Result := rotIdx .rr .IY d (some .D) s
/-- RR (IY+d) -> E (R328). -/
def execRr_atIYd_to_E (d : Byte) (s : State) : Result := rotIdx .rr .IY d (some .E) s
/-- RR (IY+d) -> H (R328). -/
def execRr_atIYd_to_H (d : Byte) (s : State) : Result := rotIdx .rr .IY d (some .H) s
/-- RR (IY+d) -> L (R328). -/
def execRr_atIYd_to_L (d : Byte) (s : State) : Result := rotIdx .rr .IY d (some .L) s
/-- RR (IY+d) (R328). -/
def execRr_atIYd (d : Byte) (s : State) : Result := rotIdx .rr .IY d none s
/-- RR (IY+d) -> A (R328). -/
def execRr_atIYd_to_A (d : Byte) (s : State) : Result := rotIdx .rr .IY d (some .A) s
/-- SLA (IY+d) -> B (R329). -/
def execSla_atIYd_to_B (d : Byte) (s : State) : Result := rotIdx .sla .IY d (some .B) s
/-- SLA (IY+d) -> C (R329). -/
def execSla_atIYd_to_C (d : Byte) (s : State) : Result := rotIdx .sla .IY d (some .C) s
/-- SLA (IY+d) -> D (R329). -/
def execSla_atIYd_to_D (d : Byte) (s : State) : Result := rotIdx .sla .IY d (some .D) s
/-- SLA (IY+d) -> E (R329). -/
def execSla_atIYd_to_E (d : Byte) (s : State) : Result := rotIdx .sla .IY d (some .E) s
/-- SLA (IY+d) -> H (R329). -/
def execSla_atIYd_to_H (d : Byte) (s : State) : Result := rotIdx .sla .IY d (some .H) s
/-- SLA (IY+d) -> L (R329). -/
def execSla_atIYd_to_L (d : Byte) (s : State) : Result := rotIdx .sla .IY d (some .L) s
/-- SLA (IY+d) (R329). -/
def execSla_atIYd (d : Byte) (s : State) : Result := rotIdx .sla .IY d none s
/-- SLA (IY+d) -> A (R329). -/
def execSla_atIYd_to_A (d : Byte) (s : State) : Result := rotIdx .sla .IY d (some .A) s
/-- SRA (IY+d) -> B (R330). -/
def execSra_atIYd_to_B (d : Byte) (s : State) : Result := rotIdx .sra .IY d (some .B) s
/-- SRA (IY+d) -> C (R330). -/
def execSra_atIYd_to_C (d : Byte) (s : State) : Result := rotIdx .sra .IY d (some .C) s
/-- SRA (IY+d) -> D (R330). -/
def execSra_atIYd_to_D (d : Byte) (s : State) : Result := rotIdx .sra .IY d (some .D) s
/-- SRA (IY+d) -> E (R330). -/
def execSra_atIYd_to_E (d : Byte) (s : State) : Result := rotIdx .sra .IY d (some .E) s
/-- SRA (IY+d) -> H (R330). -/
def execSra_atIYd_to_H (d : Byte) (s : State) : Result := rotIdx .sra .IY d (some .H) s
/-- SRA (IY+d) -> L (R330). -/
def execSra_atIYd_to_L (d : Byte) (s : State) : Result := rotIdx .sra .IY d (some .L) s
/-- SRA (IY+d) (R330). -/
def execSra_atIYd (d : Byte) (s : State) : Result := rotIdx .sra .IY d none s
/-- SRA (IY+d) -> A (R330). -/
def execSra_atIYd_to_A (d : Byte) (s : State) : Result := rotIdx .sra .IY d (some .A) s
/-- SLL (IY+d) -> B (R331). -/
def execSll_atIYd_to_B (d : Byte) (s : State) : Result := rotIdx .sll .IY d (some .B) s
/-- SLL (IY+d) -> C (R331). -/
def execSll_atIYd_to_C (d : Byte) (s : State) : Result := rotIdx .sll .IY d (some .C) s
/-- SLL (IY+d) -> D (R331). -/
def execSll_atIYd_to_D (d : Byte) (s : State) : Result := rotIdx .sll .IY d (some .D) s
/-- SLL (IY+d) -> E (R331). -/
def execSll_atIYd_to_E (d : Byte) (s : State) : Result := rotIdx .sll .IY d (some .E) s
/-- SLL (IY+d) -> H (R331). -/
def execSll_atIYd_to_H (d : Byte) (s : State) : Result := rotIdx .sll .IY d (some .H) s
/-- SLL (IY+d) -> L (R331). -/
def execSll_atIYd_to_L (d : Byte) (s : State) : Result := rotIdx .sll .IY d (some .L) s
/-- SLL (IY+d) (R331). -/
def execSll_atIYd (d : Byte) (s : State) : Result := rotIdx .sll .IY d none s
/-- SLL (IY+d) -> A (R331). -/
def execSll_atIYd_to_A (d : Byte) (s : State) : Result := rotIdx .sll .IY d (some .A) s
/-- SRL (IY+d) -> B (R332). -/
def execSrl_atIYd_to_B (d : Byte) (s : State) : Result := rotIdx .srl .IY d (some .B) s
/-- SRL (IY+d) -> C (R332). -/
def execSrl_atIYd_to_C (d : Byte) (s : State) : Result := rotIdx .srl .IY d (some .C) s
/-- SRL (IY+d) -> D (R332). -/
def execSrl_atIYd_to_D (d : Byte) (s : State) : Result := rotIdx .srl .IY d (some .D) s
/-- SRL (IY+d) -> E (R332). -/
def execSrl_atIYd_to_E (d : Byte) (s : State) : Result := rotIdx .srl .IY d (some .E) s
/-- SRL (IY+d) -> H (R332). -/
def execSrl_atIYd_to_H (d : Byte) (s : State) : Result := rotIdx .srl .IY d (some .H) s
/-- SRL (IY+d) -> L (R332). -/
def execSrl_atIYd_to_L (d : Byte) (s : State) : Result := rotIdx .srl .IY d (some .L) s
/-- SRL (IY+d) (R332). -/
def execSrl_atIYd (d : Byte) (s : State) : Result := rotIdx .srl .IY d none s
/-- SRL (IY+d) -> A (R332). -/
def execSrl_atIYd_to_A (d : Byte) (s : State) : Result := rotIdx .srl .IY d (some .A) s

end Sys2Proof.Machine
end

