-- ==== Sys2Proof/Machine/Run.lean ====
section
/-! DEFINITION. Fetching an instruction (R78, R111) and running the instruction of a form.

`execForm` is `exec` of the form's instruction. Lean's compiler cannot build a value of `Instr` (it has more
constructors with fields than a runtime tag can number; log entry 13), so the compiled code of `execForm` is
`runForm`, which calls the same meanings' shared operations; `execForm_eq_runForm` proves the two equal. -/

namespace Sys2Proof.Machine

/-- Read the instruction at PC: byte `k` of it is at `(pc0 + k)_16`, an instruction read (R78, R111). -/
def State.fetchForm (s : State) : Except Fault Form :=
  decodeWith (fun k => s.memRead (s.pc + BitVec.ofNat 16 k))

/-- Run the instruction of a form. -/
noncomputable def execForm (g : Form) (s : State) : Result := exec g.toInstr s

/-- The shared operation of each form. -/
def runForm (g : Form) (s : State) : Result :=
  match g with
  | .ldRegReg d r => ldRegReg d r s
  | .ldRegImm d n => ldRegImm d n s
  | .ldRegMem d => ldRegMem d s
  | .ldMemReg r => ldMemReg r s
  | .ldMemImm n => ldMemImm n s
  | .ldRegIdx r x d => ldRegIdx r x d s
  | .ldIdxReg x d r => ldIdxReg x d r s
  | .ldIdxImm x d n => ldIdxImm x d n s
  | .ldAccInd p => ldAccInd p s
  | .ldIndAcc p => ldIndAcc p s
  | .ldAccAbs nn => ldAccAbs nn s
  | .ldAbsAcc nn => ldAbsAcc nn s
  | .ldAccSpecial q => ldAccSpecial q s
  | .ldSpecialAcc q => ldSpecialAcc q s
  | .ldRegHalf d x h => ldRegHalf d x h s
  | .ldHalfReg x h r => ldHalfReg x h r s
  | .ldHalfHalf x h h' => ldHalfHalf x h h' s
  | .ldHalfImm x h n => ldHalfImm x h n s
  | .ldPairImm p nn => ldPairImm p nn s
  | .ldIndexImm x nn => ldIndexImm x nn s
  | .ldHlAbs nn => ldPairAbs .HL nn 3 16 s
  | .ldPairAbs p nn => ldPairAbs p nn 4 20 s
  | .ldIndexAbs x nn => ldIndexAbs x nn s
  | .ldAbsHl nn => ldAbsPair .HL nn 3 16 s
  | .ldAbsPair p nn => ldAbsPair p nn 4 20 s
  | .ldAbsIndex x nn => ldAbsIndex x nn s
  | .ldSpHl => ldSpHl s
  | .ldSpIndex x => ldSpIndex x s
  | .pushPair q => pushPair q s
  | .pushIndex x => pushIndex x s
  | .popPair q => popPair q s
  | .popIndex x => popIndex x s
  | .exDeHl => exDeHl s
  | .exAf => exAf s
  | .exx => exx s
  | .exSpHl => exSpHl s
  | .exSpIndex x => exSpIndex x s
  | .aluReg op r => aluReg op r s
  | .aluMem op => aluMem op s
  | .aluImm op n => aluImm op n s
  | .aluHalf op x h => aluHalf op x h s
  | .aluIdx op x d => aluIdx op x d s
  | .incReg r => incReg r s
  | .incHalf x h => incHalf x h s
  | .incMem => incMem s
  | .incIdx x d => incIdx x d s
  | .decReg r => decReg r s
  | .decHalf x h => decHalf x h s
  | .decMem => decMem s
  | .decIdx x d => decIdx x d s
  | .daa => execDaa s
  | .cpl => execCpl s
  | .neg => execNeg s
  | .ccf => execCcf s
  | .scf => execScf s
  | .addHl p => addHl p s
  | .adcHl p => adcHl p s
  | .sbcHl p => sbcHl p s
  | .addIndex x p => addIndex x p s
  | .incPair p => incPair p s
  | .incIndex x => incIndex x s
  | .decPair p => decPair p s
  | .decIndex x => decIndex x s
  | .accRot k => accRot k s
  | .rotReg k r => rotReg k r s
  | .rotMem k => rotMem k s
  | .rotIdx k x d copy => rotIdx k x d copy s
  | .bitReg b r => bitReg b r s
  | .bitMem b => bitMem b s
  | .bitIdx b x d _ => bitIdx b x d s
  | .chgReg set b r => chgReg set b r s
  | .chgMem set b => chgMem set b s
  | .chgIdx set b x d copy => chgIdx set b x d copy s
  | .rld => execRld s
  | .rrd => execRrd s
  | .jp nn => execJp_nn nn s
  | .jpCond cc nn => jpCond cc nn s
  | .jr e => execJr_e e s
  | .jrCond cc e => jrCond cc e s
  | .jpHl => execJp_atHL s
  | .jpIndex x => jpIndex x s
  | .djnz e => execDjnz_e e s
  | .call nn => execCall_nn nn s
  | .callCond cc nn => callCond cc nn s
  | .ret => execRet s
  | .retCond cc => retCond cc s
  | .reti => execReti s
  | .retn => execRetn s
  | .rst t => rst t s
  | .block k => match k with
    | .ldi => execLdi s | .ldd => execLdd s | .ldir => execLdir s | .lddr => execLddr s
    | .cpi => execCpi s | .cpd => execCpd s | .cpir => execCpir s | .cpdr => execCpdr s
    | .ini => execIni s | .ind => execInd s | .inir => execInir s | .indr => execIndr s
    | .outi => execOuti s | .outd => execOutd s | .otir => execOtir s | .otdr => execOtdr s
  | .inAcc n => execIn_A_atn n s
  | .inReg r => inReg r s
  | .outAcc n => execOut_atn_A n s
  | .outReg r => outReg r s
  | .nop => execNop s
  | .halt => execHalt s
  | .di => execDi s
  | .ei => execEi s
  | .im m => setIm m s
  | .invalid p op => execInvalid p op s

set_option maxRecDepth 4000 in
/-- Running the instruction of a form is the form's operation. -/
theorem exec_toInstr (g : Form) (s : State) : exec g.toInstr s = runForm g s := by
  cases g with
  | ldRegReg d r => cases d <;> cases r <;> rfl
  | ldRegImm d n => cases d <;> rfl
  | ldRegMem d => cases d <;> rfl
  | ldMemReg r => cases r <;> rfl
  | ldRegIdx r x d => cases r <;> cases x <;> rfl
  | ldIdxReg x d r => cases x <;> cases r <;> rfl
  | ldIdxImm x d n => cases x <;> rfl
  | ldAccInd p => cases p <;> rfl
  | ldIndAcc p => cases p <;> rfl
  | ldAccSpecial q => cases q <;> rfl
  | ldSpecialAcc q => cases q <;> rfl
  | ldRegHalf d x h => cases d <;> cases x <;> cases h <;> rfl
  | ldHalfReg x h r => cases x <;> cases h <;> cases r <;> rfl
  | ldHalfHalf x h h' => cases x <;> cases h <;> cases h' <;> rfl
  | ldHalfImm x h n => cases x <;> cases h <;> rfl
  | ldPairImm p nn => cases p <;> rfl
  | ldIndexImm x nn => cases x <;> rfl
  | ldPairAbs p nn => cases p <;> rfl
  | ldIndexAbs x nn => cases x <;> rfl
  | ldAbsPair p nn => cases p <;> rfl
  | ldAbsIndex x nn => cases x <;> rfl
  | ldSpIndex x => cases x <;> rfl
  | pushPair q => cases q <;> rfl
  | pushIndex x => cases x <;> rfl
  | popPair q => cases q <;> rfl
  | popIndex x => cases x <;> rfl
  | exSpIndex x => cases x <;> rfl
  | aluReg op r => cases op <;> cases r <;> rfl
  | aluMem op => cases op <;> rfl
  | aluImm op n => cases op <;> rfl
  | aluHalf op x h => cases op <;> cases x <;> cases h <;> rfl
  | aluIdx op x d => cases op <;> cases x <;> rfl
  | incReg r => cases r <;> rfl
  | incHalf x h => cases x <;> cases h <;> rfl
  | incIdx x d => cases x <;> rfl
  | decReg r => cases r <;> rfl
  | decHalf x h => cases x <;> cases h <;> rfl
  | decIdx x d => cases x <;> rfl
  | addHl p => cases p <;> rfl
  | adcHl p => cases p <;> rfl
  | sbcHl p => cases p <;> rfl
  | addIndex x p => cases x <;> cases p <;> rfl
  | incPair p => cases p <;> rfl
  | incIndex x => cases x <;> rfl
  | decPair p => cases p <;> rfl
  | decIndex x => cases x <;> rfl
  | accRot k => cases k <;> rfl
  | rotReg k r => cases k <;> cases r <;> rfl
  | rotMem k => cases k <;> rfl
  | rotIdx k x d copy => cases k <;> cases x <;> rcases copy with _ | r <;> first | rfl | (cases r <;> rfl)
  | bitReg b r => cases b <;> cases r <;> rfl
  | bitMem b => cases b <;> rfl
  | bitIdx b x d z => cases b <;> cases x <;> rfl
  | chgReg set b r => cases set <;> cases b <;> cases r <;> rfl
  | chgMem set b => cases set <;> cases b <;> rfl
  | chgIdx set b x d copy =>
    cases set <;> cases b <;> cases x <;> rcases copy with _ | r <;> first | rfl | (cases r <;> rfl)
  | jpCond cc nn => cases cc <;> rfl
  | jrCond cc e => cases cc <;> rfl
  | jpIndex x => cases x <;> rfl
  | callCond cc nn => cases cc <;> rfl
  | retCond cc => cases cc <;> rfl
  | rst t => cases t <;> rfl
  | block k => cases k <;> rfl
  | inReg r => cases r <;> rfl
  | outReg r => cases r <;> rfl
  | im m => cases m <;> rfl
  | _ => rfl

/-- The compiled code of `execForm`. -/
@[csimp] theorem execForm_eq_runForm : @execForm = @runForm := by
  funext g s
  exact exec_toInstr g s

end Sys2Proof.Machine
end

