-- ==== Sys2Proof/Machine/Step.lean ====
section
/-! DEFINITION. One step of the machine, and placing an instruction where the next step fetches it. -/

namespace Sys2Proof.Machine

/-- One step: fetch the instruction at PC (R78, R111) and execute it. A read that fails in the fetch ends the step. -/
def step (s : State) : Host.Outcome State Fault Refusal :=
  match s.fetchForm with
  | .error f => .fault f
  | .ok g => execForm g s

/-- The state with an instruction of the opcode table stored at PC, as the host's `load` stores bytes (R85), on pages
that can be read; a fetch needs nothing else (R78). DESIGN CHOICE,
log entry 7: a program is loaded from outside the machine, and this stands for that load. -/
def State.withFetchWord (s : State) (nbits w : Nat) : State :=
  s.placeBytes s.pc ((tableBytes nbits w).take 4)

end Sys2Proof.Machine
end

