-- ==== Sys2Proof/Machine/HostOps.lean ====
section
/-! DEFINITION. What the host may do between steps (R470): load and dump memory, set PC, set and delete breakpoints, shut
devices down; and what a device does on its own between steps: the console's worker (R464), a shutdown request (R466). -/

namespace Sys2Proof.Machine

/-- `load(addr, bytes)` (R85): store bytes whatever the page attributes; none if they would run off the end. -/
def State.load (s : State) (a : Nat) (bytes : List Byte) : Option State :=
  if a + bytes.length ≤ addressCount then some { s with mem := Memory.writeMany s.mem a bytes } else none

/-- `dump(addr, n)` (R85): the bytes at n addresses from addr on; none if they would run off the end. DESIGN CHOICE for
the end, log entry 10. -/
def State.dump (s : State) (a n : Nat) : Option (List Byte) :=
  if a + n ≤ addressCount then some ((List.range n).map (fun k => Memory.read s.mem (a + k))) else none

/-- `pc addr` (R470). -/
def State.setPc (s : State) (a : Word) : State := { s with pc := a }

/-- Insert a breakpoint, in place of one at the same address; addresses stay strictly rising. -/
def insertBreakpoint (l : List Breakpoint) (b : Breakpoint) : List Breakpoint :=
  match l with
  | [] => [b]
  | x :: rest =>
    if b.addr < x.addr then b :: x :: rest
    else if b.addr = x.addr then b :: rest
    else x :: insertBreakpoint rest b

/-- `set_breakpoint(addr, callback?)` (R468): inserts and sets the debug flag. -/
def State.setBreakpoint (s : State) (a : Word) (callback : Option Nat) : State :=
  { s with breakpoints := insertBreakpoint s.breakpoints ⟨a.toNat, callback⟩, debugFlag := true }

/-- `delete_breakpoint(addr)` (R468): removes, and clears the debug flag when the map becomes empty. -/
def State.deleteBreakpoint (s : State) (a : Word) : State :=
  let l := s.breakpoints.filter (fun b => b.addr != a.toNat)
  { s with breakpoints := l, debugFlag := if l.isEmpty then false else s.debugFlag }

/-- `list_breakpoints()` (R468). -/
def State.listBreakpoints (s : State) : List Nat := s.breakpoints.map Breakpoint.addr

/-- `shutdown()` on a device (R463): a second call changes nothing. -/
def State.shutdownDevice (s : State) (k : Nat) : State :=
  match s.devices[k]? with
  | some dev => s.setDevice k { dev with shutDown := true }
  | none => s

/-- A device asks for termination (R466). -/
def State.requestShutdown (s : State) (reason : String) : State :=
  { s with shutdownReasons := s.shutdownReasons ++ [reason] }

/-- The console's worker puts a given input byte in the empty one-byte buffer between two steps (R464); input that is not
given arrives by the draws of `consoleArrival`. DESIGN CHOICE that a full buffer keeps its byte, log entry 5. -/
def State.consoleInput (s : State) (k : Nat) (v : Byte) : State :=
  match s.devices[k]? with
  | some ⟨.console c, down⟩ => s.setDevice k ⟨.console { c with buffer := some (c.buffer.getD v) }, down⟩
  | _ => s

end Sys2Proof.Machine
end

