-- ==== Sys2Proof/Machine/Bus.lean ====
section
/-! DEFINITION. Building the bus before the CPU runs (R84, R462, R491). -/

namespace Sys2Proof.Machine

/-- A memory region declaration (R84): an optional image is the empty list. -/
structure Region where
  base  : Nat
  size  : Nat
  attr  : PageAttr
  image : List Byte
  deriving DecidableEq, Repr

/-- Why construction fails (R84). -/
inductive BusError where
  /-- The size is not a multiple of 1 KiB. -/
  | misalignedSize
  /-- The region extends past 64 KiB. -/
  | pastEnd
  /-- The image does not fit in the declared size. -/
  | imageTooLarge
  deriving DecidableEq, Repr

/-- The check of one declaration (R84). DESIGN CHOICE that the first error in this order is reported, log entry 12. -/
def Region.check (r : Region) : Option BusError :=
  if r.size % pageSize ≠ 0 then some .misalignedSize
  else if r.base + r.size > addressCount then some .pastEnd
  else if r.image.length > r.size then some .imageTooLarge
  else none

/-- Does the region hold an address of the page? DESIGN CHOICE for a base that begins no page, and for a region of size 0, which
holds no address and so covers no page, log entry 12. -/
def Region.covers (r : Region) (p : Nat) : Bool :=
  decide (0 < r.size) && decide (r.base < (p + 1) * pageSize) && decide (p * pageSize < r.base + r.size)

/-- The attributes of a page: the last declaration that covers it gives them (R84); a page none covers is unmapped. -/
def pageAttr (regions : List Region) (p : Nat) : PageAttr :=
  match (regions.filter (fun r => r.covers p)).getLast? with
  | some r => r.attr
  | none => .unmapped

/-- A device declaration (R462, R463): the ports it occupies begin at `base`. -/
inductive DeviceDecl where
  | latch (base : Byte)
  | console (base : Byte)
  | other (base : Byte) (ports : Nat)
  deriving DecidableEq, Repr

/-- The first port of a device. -/
def DeviceDecl.base : DeviceDecl → Nat
  | .latch b => b.toNat
  | .console b => b.toNat
  | .other b _ => b.toNat

/-- How many ports a device occupies: the latch one (R465), the console two (R464). -/
def DeviceDecl.ports : DeviceDecl → Nat
  | .latch _ => 1
  | .console _ => 2
  | .other _ n => n

/-- The device at cold boot (R491): the source gives neither the latch's first byte nor the console's latches (log entry 3).
DESIGN CHOICE that the console's input buffer is empty, log entry 3, and that the device is not shut down, log entry 5. -/
def DeviceDecl.device (k : Nat) : DeviceDecl → Device
  | .latch _ => ⟨.latch (Config.latchInit k), false⟩
  | .console _ => ⟨.console ⟨none, none, (Config.consoleInit k).1, (Config.consoleInit k).2, []⟩, false⟩
  | .other _ _ => ⟨.other, false⟩

/-- The slot of a port: the last declared device that occupies it owns it. DESIGN CHOICE for two devices on one port, log
entry 5. -/
def slotFor (decls : List DeviceDecl) (port : Nat) : Option IoSlot :=
  ((decls.zipIdx.filter (fun x => decide (x.1.base ≤ port) && decide (port < x.1.base + x.1.ports))).getLast?).map
    (fun x => ⟨port, x.2, x.1.base⟩)

/-- The memory the images give, each copied in the order of the declarations. DESIGN CHOICE, log entry 12. -/
def loadImages (regions : List Region) : List Host.Cell :=
  regions.foldl (fun m r => Memory.writeMany m r.base r.image) []

/-- Build the bus (R84): a region declaration with an error makes construction fail. DESIGN CHOICE that a device declaration
whose ports run past 0xFF is accepted and owns no port past 0xFF, log entry 12. -/
def buildBus (regions : List Region) (decls : List DeviceDecl) : Except BusError Bus :=
  match regions.findSome? Region.check with
  | some e => .error e
  | none => .ok {
      pages := Vector.ofFn (fun p : Fin 64 => pageAttr regions p.val)
      mem := loadImages regions
      slots := (List.range 256).filterMap (slotFor decls)
      devices := decls.zipIdx.map (fun x => x.1.device x.2) }

end Sys2Proof.Machine
end

