-- ==== Sys2Proof/Machine/Debug.lean ====
section
/-! DEFINITION. The breakpoint wrapper (R454), the codes of the results (R450), and a run (R471). -/

namespace Sys2Proof.Machine

/-- The breakpoint at an address, if the map holds one (R44). -/
def State.breakpointAt (s : State) (a : Word) : Option Breakpoint := s.breakpoints.find? (fun b => b.addr == a.toNat)

/-- `debug_step()` (R454): the inner step; after an `Ok` at a breakpoint's address, `Breakpoint` in place of `Ok`. -/
def debugStep (s : State) : Result :=
  match step s with
  | .next t =>
    match t.result, t.breakpointAt t.pc with
    | .ok, some b => .next { t with result := .breakpoint t.pc b.callback }
    | _, _ => .next t
  | .fault f => .fault f
  | .refused q => .refused q

/-- The code of a step's result (R450, D22). -/
def resultCode (r : Result) : Option Nat :=
  match r with
  | .next t =>
    match t.result with
    | .ok => some 0
    | .halt _ => some 3
    | .breakpoint _ _ => some 4
  | .fault (.badAccess _ _ _) => some 1
  | .fault (.invalidInstruction _ _ _) => some 2
  | .refused _ => none

/-- How a run stands after some steps (R471). -/
inductive RunEnd where
  /-- The normal end: the state after the HALT step. -/
  | halted (s : State)
  /-- An end at `BadAccess` or `InvalidInstruction`. -/
  | faulted (f : Fault)
  /-- The driver found a shutdown request between steps. -/
  | shutdown (s : State)
  /-- Not ended. -/
  | running (s : State)
  /-- A step was refused; no step of this model is. -/
  | refused (q : Refusal)
  deriving DecidableEq, Repr

/-- A run of at most n steps (R471): between steps the driver polls for a shutdown request (R466), and the run ends at the
first `Halt`, `InvalidInstruction` or `BadAccess`. DESIGN CHOICE that it polls before the first step too, log entry 14. -/
def drive (n : Nat) (s : State) : RunEnd :=
  match n with
  | 0 => .running s
  | n + 1 =>
    if s.shutdownReasons.isEmpty then
      match step s with
      | .next t =>
        match t.result with
        | .halt _ => .halted t
        | _ => drive n t
      | .fault f => .faulted f
      | .refused q => .refused q
    else .shutdown s

end Sys2Proof.Machine
end

