-- ==== Sys2Proof/Machine/Disasm.lean ====
section
/-! DEFINITION. The disassembler (R128, R129, R133): the text of an instruction, from the same decoder the executor
uses. -/

namespace Sys2Proof.Machine

/-- What stands in an operand's place, before it is spelled. -/
inductive Operand where
  /-- Nothing, or a fixed text: a register, a condition, a bit number. -/
  | text (s : String)
  /-- A register-indirect operand: the register's name. -/
  | indirect (s : String)
  | imm8 (n : Byte)
  | imm16 (nn : Word)
  /-- A port number, `(n)`. -/
  | port (n : Byte)
  /-- An absolute address, `(nn)`. -/
  | extended (nn : Word)
  /-- A relative target, by its displacement. -/
  | relative (e : Byte)
  /-- `(xy+d)`, and the register of a copy (R128). -/
  | indexed (x : Index) (d : Byte) (copy : Option Reg8)
  deriving DecidableEq, Repr

/-- One hexadecimal digit. -/
def hexDigit (n : Nat) : Char :=
  ['0', '1', '2', '3', '4', '5', '6', '7', '8', '9', 'A', 'B', 'C', 'D', 'E', 'F'].getD n '0'

/-- A byte as two digits. -/
def hex8 (v : Byte) : String := String.ofList [hexDigit (v.toNat / 16), hexDigit (v.toNat % 16)]

/-- A word as four digits. -/
def hex16 (w : Word) : String := hex8 (hi w) ++ hex8 (lo w)

def regName : Reg8 → String
  | .B => "B" | .C => "C" | .D => "D" | .E => "E" | .H => "H" | .L => "L" | .A => "A"

def plainName (r : PlainReg) : String := regName (plainReg r)

def pairName : Pair → String
  | .BC => "BC" | .DE => "DE" | .HL => "HL" | .SP => "SP"

def stackPairName : StackPair → String
  | .BC => "BC" | .DE => "DE" | .HL => "HL" | .AF => "AF"

def indexName : Index → String
  | .IX => "IX" | .IY => "IY"

def halfName (x : Index) : Half → String
  | .H => indexName x ++ "H" | .L => indexName x ++ "L"

def indexPairName (x : Index) : IndexPair → String
  | .BC => "BC" | .DE => "DE" | .XY => indexName x | .SP => "SP"

def accPointerName : AccPointer → String
  | .BC => "BC" | .DE => "DE"

def specialName : SpecialReg → String
  | .I => "I" | .R => "R"

def condName : Cond → String
  | .NZ => "NZ" | .Z => "Z" | .NC => "NC" | .C => "C" | .PO => "PO" | .PE => "PE" | .P => "P" | .M => "M"

def bitName : BitNo → String
  | .b0 => "0" | .b1 => "1" | .b2 => "2" | .b3 => "3" | .b4 => "4" | .b5 => "5" | .b6 => "6" | .b7 => "7"

def rstName : RstTarget → String
  | .t00 => "00H" | .t08 => "08H" | .t10 => "10H" | .t18 => "18H"
  | .t20 => "20H" | .t28 => "28H" | .t30 => "30H" | .t38 => "38H"

def rotName : RotOp → String
  | .rlc => "RLC" | .rrc => "RRC" | .rl => "RL" | .rr => "RR"
  | .sla => "SLA" | .sra => "SRA" | .sll => "SLL" | .srl => "SRL"

def accRotName : AccRot → String
  | .rlca => "RLCA" | .rrca => "RRCA" | .rla => "RLA" | .rra => "RRA"

def blockName : BlockOp → String
  | .ldi => "LDI" | .ldd => "LDD" | .ldir => "LDIR" | .lddr => "LDDR"
  | .cpi => "CPI" | .cpd => "CPD" | .cpir => "CPIR" | .cpdr => "CPDR"
  | .ini => "INI" | .ind => "IND" | .inir => "INIR" | .indr => "INDR"
  | .outi => "OUTI" | .outd => "OUTD" | .otir => "OTIR" | .otdr => "OTDR"

def imName : ImMode → String
  | .im0 => "0" | .im1 => "1" | .im2 => "2"

/-- A mnemonic and its two operands, the destination first. -/
abbrev Asm := String × Operand × Operand

/-- An instruction with no operand. -/
def asm0 (m : String) : Asm := (m, .text "", .text "")

/-- An instruction with one operand. DESIGN CHOICE that the only operand is the destination's text, the source's empty, log entry 11. -/
def asm1 (m : String) (o : Operand) : Asm := (m, o, .text "")

/-- An ALU operation (R271 to R278): ADD, ADC and SBC name A. -/
def aluAsm (op : AluOp) (o : Operand) : Asm :=
  match op with
  | .add => ("ADD", .text "A", o)
  | .adc => ("ADC", .text "A", o)
  | .sub => asm1 "SUB" o
  | .sbc => ("SBC", .text "A", o)
  | .and => asm1 "AND" o
  | .xor => asm1 "XOR" o
  | .or => asm1 "OR" o
  | .cp => asm1 "CP" o

/-- `(HL)`. -/
def atHl : Operand := .indirect "HL"

/-- SET or RES. -/
def chgName (set : Bool) : String := if set then "SET" else "RES"

/-- The Zilog spelling (R128). -/
def z80Asm (g : Form) : Asm :=
  match g with
  | .ldRegReg d r => ("LD", .text (regName d), .text (regName r))
  | .ldRegImm d n => ("LD", .text (regName d), .imm8 n)
  | .ldRegMem d => ("LD", .text (regName d), atHl)
  | .ldMemReg r => ("LD", atHl, .text (regName r))
  | .ldMemImm n => ("LD", atHl, .imm8 n)
  | .ldRegIdx r x d => ("LD", .text (regName r), .indexed x d none)
  | .ldIdxReg x d r => ("LD", .indexed x d none, .text (regName r))
  | .ldIdxImm x d n => ("LD", .indexed x d none, .imm8 n)
  | .ldAccInd p => ("LD", .text "A", .indirect (accPointerName p))
  | .ldIndAcc p => ("LD", .indirect (accPointerName p), .text "A")
  | .ldAccAbs nn => ("LD", .text "A", .extended nn)
  | .ldAbsAcc nn => ("LD", .extended nn, .text "A")
  | .ldAccSpecial q => ("LD", .text "A", .text (specialName q))
  | .ldSpecialAcc q => ("LD", .text (specialName q), .text "A")
  | .ldRegHalf d x h => ("LD", .text (plainName d), .text (halfName x h))
  | .ldHalfReg x h r => ("LD", .text (halfName x h), .text (plainName r))
  | .ldHalfHalf x h h' => ("LD", .text (halfName x h), .text (halfName x h'))
  | .ldHalfImm x h n => ("LD", .text (halfName x h), .imm8 n)
  | .ldPairImm p nn => ("LD", .text (pairName p), .imm16 nn)
  | .ldIndexImm x nn => ("LD", .text (indexName x), .imm16 nn)
  | .ldHlAbs nn => ("LD", .text "HL", .extended nn)
  | .ldPairAbs p nn => ("LD", .text (pairName p), .extended nn)
  | .ldIndexAbs x nn => ("LD", .text (indexName x), .extended nn)
  | .ldAbsHl nn => ("LD", .extended nn, .text "HL")
  | .ldAbsPair p nn => ("LD", .extended nn, .text (pairName p))
  | .ldAbsIndex x nn => ("LD", .extended nn, .text (indexName x))
  | .ldSpHl => ("LD", .text "SP", .text "HL")
  | .ldSpIndex x => ("LD", .text "SP", .text (indexName x))
  | .pushPair q => asm1 "PUSH" (.text (stackPairName q))
  | .pushIndex x => asm1 "PUSH" (.text (indexName x))
  | .popPair q => asm1 "POP" (.text (stackPairName q))
  | .popIndex x => asm1 "POP" (.text (indexName x))
  | .exDeHl => ("EX", .text "DE", .text "HL")
  | .exAf => ("EX", .text "AF", .text "AF'")
  | .exx => asm0 "EXX"
  | .exSpHl => ("EX", .indirect "SP", .text "HL")
  | .exSpIndex x => ("EX", .indirect "SP", .text (indexName x))
  | .aluReg op r => aluAsm op (.text (regName r))
  | .aluMem op => aluAsm op atHl
  | .aluImm op n => aluAsm op (.imm8 n)
  | .aluHalf op x h => aluAsm op (.text (halfName x h))
  | .aluIdx op x d => aluAsm op (.indexed x d none)
  | .incReg r => asm1 "INC" (.text (regName r))
  | .incHalf x h => asm1 "INC" (.text (halfName x h))
  | .incMem => asm1 "INC" atHl
  | .incIdx x d => asm1 "INC" (.indexed x d none)
  | .decReg r => asm1 "DEC" (.text (regName r))
  | .decHalf x h => asm1 "DEC" (.text (halfName x h))
  | .decMem => asm1 "DEC" atHl
  | .decIdx x d => asm1 "DEC" (.indexed x d none)
  | .daa => asm0 "DAA"
  | .cpl => asm0 "CPL"
  | .neg => asm0 "NEG"
  | .ccf => asm0 "CCF"
  | .scf => asm0 "SCF"
  | .addHl p => ("ADD", .text "HL", .text (pairName p))
  | .adcHl p => ("ADC", .text "HL", .text (pairName p))
  | .sbcHl p => ("SBC", .text "HL", .text (pairName p))
  | .addIndex x p => ("ADD", .text (indexName x), .text (indexPairName x p))
  | .incPair p => asm1 "INC" (.text (pairName p))
  | .incIndex x => asm1 "INC" (.text (indexName x))
  | .decPair p => asm1 "DEC" (.text (pairName p))
  | .decIndex x => asm1 "DEC" (.text (indexName x))
  | .accRot k => asm0 (accRotName k)
  | .rotReg k r => asm1 (rotName k) (.text (regName r))
  | .rotMem k => asm1 (rotName k) atHl
  | .rotIdx k x d copy => asm1 (rotName k) (.indexed x d copy)
  | .bitReg b r => ("BIT", .text (bitName b), .text (regName r))
  | .bitMem b => ("BIT", .text (bitName b), atHl)
  | .bitIdx b x d _ => ("BIT", .text (bitName b), .indexed x d none)
  | .chgReg set b r => (chgName set, .text (bitName b), .text (regName r))
  | .chgMem set b => (chgName set, .text (bitName b), atHl)
  | .chgIdx set b x d copy => (chgName set, .text (bitName b), .indexed x d copy)
  | .rld => asm0 "RLD"
  | .rrd => asm0 "RRD"
  | .jp nn => asm1 "JP" (.imm16 nn)
  | .jpCond cc nn => ("JP", .text (condName cc), .imm16 nn)
  | .jr e => asm1 "JR" (.relative e)
  | .jrCond cc e => ("JR", .text (condName cc.cond), .relative e)
  | .jpHl => asm1 "JP" atHl
  | .jpIndex x => asm1 "JP" (.indirect (indexName x))
  | .djnz e => asm1 "DJNZ" (.relative e)
  | .call nn => asm1 "CALL" (.imm16 nn)
  | .callCond cc nn => ("CALL", .text (condName cc), .imm16 nn)
  | .ret => asm0 "RET"
  | .retCond cc => asm1 "RET" (.text (condName cc))
  | .reti => asm0 "RETI"
  | .retn => asm0 "RETN"
  | .rst t => asm1 "RST" (.text (rstName t))
  | .block k => asm0 (blockName k)
  | .inAcc n => ("IN", .text "A", .port n)
  | .inReg r => ("IN", .text (regName r), .indirect "C")
  | .outAcc n => ("OUT", .port n, .text "A")
  | .outReg r => ("OUT", .indirect "C", .text (regName r))
  | .nop => asm0 "NOP"
  | .halt => asm0 "HALT"
  | .di => asm0 "DI"
  | .ei => asm0 "EI"
  | .im m => asm1 "IM" (.text (imName m))
  | .invalid _ _ => asm0 "INVALID"

/-- A pair in the 8080 spelling: its first letter. -/
def pairName8080 : Pair → String
  | .BC => "B" | .DE => "D" | .HL => "H" | .SP => "SP"

def stackPairName8080 : StackPair → String
  | .BC => "B" | .DE => "D" | .HL => "H" | .AF => "PSW"

def accPointerName8080 : AccPointer → String
  | .BC => "B" | .DE => "D"

def aluName8080 : AluOp → String
  | .add => "ADD" | .adc => "ADC" | .sub => "SUB" | .sbc => "SBB"
  | .and => "ANA" | .xor => "XRA" | .or => "ORA" | .cp => "CMP"

def aluImmName8080 : AluOp → String
  | .add => "ADI" | .adc => "ACI" | .sub => "SUI" | .sbc => "SBI"
  | .and => "ANI" | .xor => "XRI" | .or => "ORI" | .cp => "CPI"

def rstName8080 : RstTarget → String
  | .t00 => "0" | .t08 => "1" | .t10 => "2" | .t18 => "3" | .t20 => "4" | .t28 => "5" | .t30 => "6" | .t38 => "7"

def accRotName8080 : AccRot → String
  | .rlca => "RLC" | .rrca => "RRC" | .rla => "RAL" | .rra => "RAR"

/-- The memory operand of the 8080 spelling. -/
def opM : Operand := .text "M"

/-- The 8080 spelling, the column `mnemonic_8080` (R128); an opcode the 8080 lacks has the empty mnemonic (U22). -/
def i8080Asm (g : Form) : Asm :=
  match g with
  | .nop => asm0 "NOP"
  | .ldPairImm p nn => ("LXI", .text (pairName8080 p), .imm16 nn)
  | .ldIndAcc p => asm1 "STAX" (.text (accPointerName8080 p))
  | .ldAccInd p => asm1 "LDAX" (.text (accPointerName8080 p))
  | .incPair p => asm1 "INX" (.text (pairName8080 p))
  | .decPair p => asm1 "DCX" (.text (pairName8080 p))
  | .incReg r => asm1 "INR" (.text (regName r))
  | .incMem => asm1 "INR" opM
  | .decReg r => asm1 "DCR" (.text (regName r))
  | .decMem => asm1 "DCR" opM
  | .ldRegImm d n => ("MVI", .text (regName d), .imm8 n)
  | .ldMemImm n => ("MVI", opM, .imm8 n)
  | .accRot k => asm0 (accRotName8080 k)
  | .addHl p => asm1 "DAD" (.text (pairName8080 p))
  | .ldAbsHl nn => asm1 "SHLD" (.extended nn)
  | .ldHlAbs nn => asm1 "LHLD" (.extended nn)
  | .ldAbsAcc nn => asm1 "STA" (.extended nn)
  | .ldAccAbs nn => asm1 "LDA" (.extended nn)
  | .daa => asm0 "DAA"
  | .cpl => asm0 "CMA"
  | .scf => asm0 "STC"
  | .ccf => asm0 "CMC"
  | .ldRegReg d r => ("MOV", .text (regName d), .text (regName r))
  | .ldRegMem d => ("MOV", .text (regName d), opM)
  | .ldMemReg r => ("MOV", opM, .text (regName r))
  | .halt => asm0 "HLT"
  | .aluReg op r => asm1 (aluName8080 op) (.text (regName r))
  | .aluMem op => asm1 (aluName8080 op) opM
  | .aluImm op n => asm1 (aluImmName8080 op) (.imm8 n)
  | .retCond cc => asm0 ("R" ++ condName cc)
  | .ret => asm0 "RET"
  | .popPair q => asm1 "POP" (.text (stackPairName8080 q))
  | .pushPair q => asm1 "PUSH" (.text (stackPairName8080 q))
  | .jpCond cc nn => asm1 ("J" ++ condName cc) (.imm16 nn)
  | .jp nn => asm1 "JMP" (.imm16 nn)
  | .callCond cc nn => asm1 ("C" ++ condName cc) (.imm16 nn)
  | .call nn => asm1 "CALL" (.imm16 nn)
  | .rst t => asm1 "RST" (.text (rstName8080 t))
  | .outAcc n => asm1 "OUT" (.port n)
  | .inAcc n => asm1 "IN" (.port n)
  | .exSpHl => asm0 "XTHL"
  | .jpHl => asm0 "PCHL"
  | .exDeHl => asm0 "XCHG"
  | .di => asm0 "DI"
  | .ei => asm0 "EI"
  | .ldSpHl => asm0 "SPHL"
  | g => ("", (z80Asm g).2.1, (z80Asm g).2.2)

/-- The text of an operand of an instruction at an address (R129). -/
def Operand.render (mode : Mode) (pc : Word) (o : Operand) : String :=
  match o with
  | .text s => s
  | .indirect s =>
    match mode with
    | .z80 => "(" ++ s ++ ")"
    | .i8080 => s
  | .imm8 n => "$" ++ hex8 n
  | .imm16 nn => "$" ++ hex16 nn
  | .port n => "($" ++ hex8 n ++ ")"
  | .extended nn => "($" ++ hex16 nn ++ ")"
  | .relative e => "$" ++ hex16 (pc + 2 + sext e)
  | .indexed x d none => "(" ++ indexName x ++ "+$" ++ hex8 d ++ ")"
  | .indexed x d (some r) => "(" ++ indexName x ++ "+$" ++ hex8 d ++ ") -> " ++ regName r

/-- What the disassembler reports (R129). -/
structure Disassembly where
  mnemonic : String
  dstText  : String
  srcText  : String
  rawHex   : String
  length   : Nat
  error    : Option String
  deriving DecidableEq, Repr

/-- The bytes at an address, as many as the longest instruction has, read without side effects and whatever the page
attributes. DESIGN CHOICE, log entry 11. -/
def State.instructionBytes (s : State) (a : Word) : List Byte :=
  (List.range 4).map (fun k => s.peek (a + BitVec.ofNat 16 k))

/-- The report on a form at an address. -/
def disassembleForm (mode : Mode) (pc : Word) (bytes : List Byte) (g : Form) : Disassembly :=
  let t := match mode with
    | .z80 => z80Asm g
    | .i8080 => i8080Asm g
  { mnemonic := t.1
    dstText := t.2.1.render mode pc
    srcText := t.2.2.render mode pc
    rawHex := (bytes.take g.length).foldl (fun acc v => acc ++ hex8 v) ""
    length := g.length
    error := match g with
      | .invalid _ _ => some "InvalidInstruction"
      | _ => none }

/-- The disassembler (R129): the instruction at an address in the CPU's mode. Four bytes hold any instruction, so `none`
does not arise. -/
def State.disassemble (s : State) (a : Word) : Option Disassembly :=
  match decodeForm (s.instructionBytes a) with
  | .ok g => some (disassembleForm s.mode a (s.instructionBytes a) g)
  | .error _ => none

end Sys2Proof.Machine
end

