-- ==== Sys2Proof/Safety.lean ====
section
/-! DEFINITION. The terms claims use: the invariant, and tables over the forms, written from the rules apart from the meanings: which
registers and flags a form writes, which memory it reaches in which order, where PC goes and what it costs. -/

namespace Sys2Proof.Machine

/-! ## The invariant -/

/-- Breakpoint addresses strictly rising from `low` on, each in the address space. -/
def breakpointsWfFrom (low : Nat) (l : List Breakpoint) : Bool :=
  match l with
  | [] => true
  | b :: rest => decide (low ≤ b.addr) && decide (b.addr < addressCount) && breakpointsWfFrom (b.addr + 1) rest

/-- Ports strictly rising from `low` on, each a port number, each slot's base no higher than its port and its device one of the
devices (R462). -/
def slotsWfFrom (low devices : Nat) (l : List IoSlot) : Bool :=
  match l with
  | [] => true
  | sl :: rest => decide (low ≤ sl.port) && decide (sl.port < 256) && decide (sl.base ≤ sl.port)
      && decide (sl.device < devices) && slotsWfFrom (sl.port + 1) devices rest

/-- What every step keeps: memory in its canonical form (R70), IM one of 0, 1, 2 (R39), the breakpoint map in its canonical form
and the debug flag true iff it is non-empty (R44), the slots in theirs (R462). -/
def State.Inv (s : State) : Prop :=
  Memory.wf s.mem = true ∧ s.im ≠ 3 ∧ breakpointsWfFrom 0 s.breakpoints = true
    ∧ s.debugFlag = !s.breakpoints.isEmpty ∧ slotsWfFrom 0 s.devices.length s.slots = true

/-- The end of a step that completes with `Ok`: PC, the cost, the result (R130, R131, R450). -/
def State.ended (s : State) (pc : Word) (cost : Nat) : State :=
  { s with pc := pc, cycles := s.cycles + BitVec.ofNat 64 cost, result := .ok }

/-- The opcode bytes at an address: may the bytes of an instruction be fetched, and are they these? -/
def State.holdsCode (s : State) (a : Word) (bytes : List Byte) : Prop :=
  ∀ k v, bytes[k]? = some v → s.canRead (a + BitVec.ofNat 16 k) = true ∧ s.peek (a + BitVec.ofNat 16 k) = v

/-! ## Registers -/

/-- Every register a program can reach but PC, `cycles` and F, each half of an index register apart. -/
inductive RegName where
  | A | B | C | D | E | H | L | AFalt | BCalt | DEalt | HLalt | IXH | IXL | IYH | IYL | SP | WZ | I | R | IM | IFF1 | IFF2
  deriving DecidableEq, Repr

/-- The value of a register, zero-extended. -/
def State.value (s : State) : RegName → Word
  | .A => s.regs.a.setWidth 16
  | .B => s.regs.b.setWidth 16
  | .C => s.regs.c.setWidth 16
  | .D => s.regs.d.setWidth 16
  | .E => s.regs.e.setWidth 16
  | .H => s.regs.h.setWidth 16
  | .L => s.regs.l.setWidth 16
  | .AFalt => s.afAlt
  | .BCalt => s.bcAlt
  | .DEalt => s.deAlt
  | .HLalt => s.hlAlt
  | .IXH => (hi s.ix).setWidth 16
  | .IXL => (lo s.ix).setWidth 16
  | .IYH => (hi s.iy).setWidth 16
  | .IYL => (lo s.iy).setWidth 16
  | .SP => s.sp
  | .WZ => s.wz
  | .I => s.i.setWidth 16
  | .R => s.r.setWidth 16
  | .IM => s.im.setWidth 16
  | .IFF1 => if s.iff1 then 1 else 0
  | .IFF2 => if s.iff2 then 1 else 0

/-- A register of the file by its name. -/
def regOf : Reg8 → RegName
  | .B => .B | .C => .C | .D => .D | .E => .E | .H => .H | .L => .L | .A => .A

/-- The two bytes of a pair, or SP. -/
def pairRegs : Pair → List RegName
  | .BC => [.B, .C] | .DE => [.D, .E] | .HL => [.H, .L] | .SP => [.SP]

/-- The registers POP qq loads; F stands apart. -/
def stackRegs : StackPair → List RegName
  | .BC => [.B, .C] | .DE => [.D, .E] | .HL => [.H, .L] | .AF => [.A]

/-- The two bytes of an index register. -/
def indexRegs : Index → List RegName
  | .IX => [.IXH, .IXL] | .IY => [.IYH, .IYL]

/-- One byte of an index register. -/
def halfReg : Index → Half → RegName
  | .IX, .H => .IXH | .IX, .L => .IXL | .IY, .H => .IYH | .IY, .L => .IYL

/-- The register a copy goes to (R340). -/
def copyRegs : Option Reg8 → List RegName
  | none => []
  | some r => [regOf r]

/-- The registers a block instruction writes (47_block.md). -/
def blockRegs : BlockOp → List RegName
  | .ldi | .ldd | .ldir | .lddr => [.B, .C, .D, .E, .H, .L, .WZ]
  | .cpi | .cpd | .cpir | .cpdr => [.B, .C, .H, .L, .WZ]
  | .ini | .ind | .inir | .indr | .outi | .outd | .otir | .otdr => [.B, .H, .L, .WZ]

/-- The registers a form may write beside F, PC and `cycles`. -/
def formWrites : Form → List RegName
  | .ldRegReg d _ => [regOf d]
  | .ldRegImm d _ => [regOf d]
  | .ldRegMem d => [regOf d]
  | .ldMemReg _ | .ldMemImm _ => []
  | .ldRegIdx r _ _ => [regOf r, .WZ]
  | .ldIdxReg _ _ _ | .ldIdxImm _ _ _ => [.WZ]
  | .ldAccInd _ | .ldAccAbs _ => [.A, .WZ]
  | .ldIndAcc _ | .ldAbsAcc _ => [.WZ]
  | .ldAccSpecial _ => [.A]
  | .ldSpecialAcc .I => [.I]
  | .ldSpecialAcc .R => [.R]
  | .ldRegHalf d _ _ => [regOf (plainReg d)]
  | .ldHalfReg x h _ => [halfReg x h]
  | .ldHalfHalf x h _ => [halfReg x h]
  | .ldHalfImm x h _ => [halfReg x h]
  | .ldPairImm p _ => pairRegs p
  | .ldIndexImm x _ => indexRegs x
  | .ldHlAbs _ => [.H, .L, .WZ]
  | .ldPairAbs p _ => .WZ :: pairRegs p
  | .ldIndexAbs x _ => .WZ :: indexRegs x
  | .ldAbsHl _ | .ldAbsPair _ _ | .ldAbsIndex _ _ => [.WZ]
  | .ldSpHl | .ldSpIndex _ => [.SP]
  | .pushPair _ | .pushIndex _ => [.SP]
  | .popPair q => .SP :: stackRegs q
  | .popIndex x => .SP :: indexRegs x
  | .exDeHl => [.D, .E, .H, .L]
  | .exAf => [.A, .AFalt]
  | .exx => [.B, .C, .D, .E, .H, .L, .BCalt, .DEalt, .HLalt]
  | .exSpHl => [.H, .L, .WZ]
  | .exSpIndex x => .WZ :: indexRegs x
  | .aluReg .cp _ | .aluMem .cp | .aluImm .cp _ | .aluHalf .cp _ _ => []
  | .aluReg _ _ | .aluMem _ | .aluImm _ _ | .aluHalf _ _ _ => [.A]
  | .aluIdx .cp _ _ => [.WZ]
  | .aluIdx _ _ _ => [.A, .WZ]
  | .incReg r | .decReg r => [regOf r]
  | .incHalf x h | .decHalf x h => [halfReg x h]
  | .incMem | .decMem => []
  | .incIdx _ _ | .decIdx _ _ => [.WZ]
  | .daa | .cpl | .neg => [.A]
  | .ccf | .scf => []
  | .addHl _ | .adcHl _ | .sbcHl _ => [.H, .L, .WZ]
  | .addIndex x _ => .WZ :: indexRegs x
  | .incPair p | .decPair p => pairRegs p
  | .incIndex x | .decIndex x => indexRegs x
  | .accRot _ => [.A]
  | .rotReg _ r => [regOf r]
  | .rotMem _ => []
  | .rotIdx _ _ _ copy => .WZ :: copyRegs copy
  | .bitReg _ _ | .bitMem _ => []
  | .bitIdx _ _ _ _ => [.WZ]
  | .chgReg _ _ r => [regOf r]
  | .chgMem _ _ => []
  | .chgIdx _ _ _ _ copy => .WZ :: copyRegs copy
  | .rld | .rrd => [.A, .WZ]
  | .jp _ | .jpCond _ _ | .jr _ | .jrCond _ _ => [.WZ]
  | .jpHl | .jpIndex _ => []
  | .djnz _ => [.B, .WZ]
  | .call _ | .callCond _ _ | .ret | .retCond _ | .retn | .rst _ => [.SP, .WZ]
  | .reti => [.SP, .WZ, .IFF1]
  | .block k => blockRegs k
  | .inAcc _ => [.A, .WZ]
  | .inReg r => [regOf r, .WZ]
  | .outAcc _ | .outReg _ => [.WZ]
  | .nop | .halt => []
  | .di | .ei => [.IFF1, .IFF2]
  | .im _ => [.IM]
  | .invalid _ _ => []

/-! ## Flags -/

/-- The flags a block instruction may change: the moves keep S, Z and C (R184), the compares keep C (R185). -/
def blockFlags : BlockOp → Byte
  | .ldi | .ldd | .ldir | .lddr => 0x3E
  | .cpi | .cpd | .cpir | .cpdr => 0xFE
  | .ini | .ind | .inir | .indr | .outi | .outd | .otir | .otdr => 0xFF

/-- The bits of F a form may change; every other bit keeps its value. -/
def formFlags : Form → Byte
  | .ldAccSpecial _ => 0xFE
  | .popPair .AF | .exAf => 0xFF
  | .aluReg _ _ | .aluMem _ | .aluImm _ _ | .aluHalf _ _ _ | .aluIdx _ _ _ => 0xFF
  | .incReg _ | .incHalf _ _ | .incMem | .incIdx _ _ | .decReg _ | .decHalf _ _ | .decMem | .decIdx _ _ => 0xFE
  | .daa => 0xFD
  | .cpl => 0x3A
  | .neg => 0xFF
  | .ccf | .scf => 0x3B
  | .addHl _ | .addIndex _ _ => 0x3B
  | .adcHl _ | .sbcHl _ => 0xFF
  | .accRot _ => 0x3B
  | .rotReg _ _ | .rotMem _ | .rotIdx _ _ _ _ => 0xFF
  | .bitReg _ _ | .bitMem _ | .bitIdx _ _ _ _ => 0xFE
  | .rld | .rrd => 0xFE
  | .block k => blockFlags k
  | .inReg _ => 0xFE
  | _ => 0x00

/-! ## Memory -/

/-- One data access. -/
structure Access where
  kind : AccessKind
  addr : Word
  deriving DecidableEq, Repr

/-- A read. -/
def rd (a : Word) : Access := ⟨.read, a⟩

/-- A write. -/
def wr (a : Word) : Access := ⟨.write, a⟩

/-- The accesses of Push16 (R76). -/
def pushAccesses (s : State) : List Access := [wr (s.sp - 1), wr (s.sp - 2)]

/-- The accesses of Pop16 (R77). -/
def popAccesses (s : State) : List Access := [rd s.sp, rd (s.sp + 1)]

/-- The accesses of EX (SP),.. (R257). -/
def exSpAccesses (s : State) : List Access := [rd s.sp, rd (s.sp + 1), wr (s.sp + 1), wr s.sp]

/-- The accesses of one iteration of a block instruction (47_block.md). -/
def blockAccesses (k : BlockOp) (s : State) : List Access :=
  match k with
  | .ldi | .ldd | .ldir | .lddr => [rd s.hl, wr s.de]
  | .cpi | .cpd | .cpir | .cpdr | .outi | .outd | .otir | .otdr => [rd s.hl]
  | .ini | .ind | .inir | .indr => [wr s.hl]

/-- The data accesses of a form in their order (R83). -/
def formAccesses (g : Form) (s : State) : List Access :=
  match g with
  | .ldRegMem _ | .aluMem _ | .bitMem _ => [rd s.hl]
  | .ldMemReg _ | .ldMemImm _ => [wr s.hl]
  | .incMem | .decMem | .rotMem _ | .chgMem _ _ | .rld | .rrd => [rd s.hl, wr s.hl]
  | .ldRegIdx _ x d | .aluIdx _ x d | .bitIdx _ x d _ => [rd (s.ea x d)]
  | .ldIdxReg x d _ | .ldIdxImm x d _ => [wr (s.ea x d)]
  | .incIdx x d | .decIdx x d | .rotIdx _ x d _ | .chgIdx _ _ x d _ => [rd (s.ea x d), wr (s.ea x d)]
  | .ldAccInd p => [rd (s.accPointer p)]
  | .ldIndAcc p => [wr (s.accPointer p)]
  | .ldAccAbs nn => [rd nn]
  | .ldAbsAcc nn => [wr nn]
  | .ldHlAbs nn | .ldPairAbs _ nn | .ldIndexAbs _ nn => [rd nn, rd (nn + 1)]
  | .ldAbsHl nn | .ldAbsPair _ nn | .ldAbsIndex _ nn => [wr nn, wr (nn + 1)]
  | .pushPair _ | .pushIndex _ | .call _ | .rst _ => pushAccesses s
  | .popPair _ | .popIndex _ | .ret | .reti | .retn => popAccesses s
  | .exSpHl | .exSpIndex _ => exSpAccesses s
  | .callCond cc _ => if condHolds cc s.f then pushAccesses s else []
  | .retCond cc => if condHolds cc s.f then popAccesses s else []
  | .block k => blockAccesses k s
  | _ => []

/-- Do the page attributes permit the access (R72, R73)? -/
def State.permits (s : State) (x : Access) : Bool :=
  match x.kind with
  | .read => s.canRead x.addr
  | .write => s.canWrite x.addr

/-- The addresses a form stores to. -/
def formStores (g : Form) (s : State) : List Word :=
  ((formAccesses g s).filter (fun x => x.kind = .write)).map Access.addr

/-- Does the form access a port (R70)? -/
def formUsesPorts : Form → Bool
  | .inAcc _ | .inReg _ | .outAcc _ | .outReg _ => true
  | .block .ini | .block .ind | .block .inir | .block .indr => true
  | .block .outi | .block .outd | .block .otir | .block .otdr => true
  | _ => false

/-! ## Where PC goes and what a form costs -/

/-- Does the conditional transfer transfer, or the repeating block instruction repeat (R131, R390)? -/
def formTaken (g : Form) (s : State) : Bool :=
  match g with
  | .jpCond cc _ | .callCond cc _ | .retCond cc => condHolds cc s.f
  | .jrCond cc _ => condHolds cc.cond s.f
  | .djnz _ => s.regs.b != 1
  | .block .ldir | .block .lddr => s.bc != 1
  | .block .cpir | .block .cpdr => s.bc != 1 && s.regs.a != s.peek s.hl
  | .block .inir | .block .indr | .block .otir | .block .otdr => s.regs.b != 1
  | _ => false

/-- The word on top of the stack. -/
def State.stackTop (s : State) : Word := join (s.peek (s.sp + 1)) (s.peek s.sp)

/-- PC after a step that completes (R130, R122). -/
def formPcAfter (g : Form) (s : State) : Word :=
  match g with
  | .jp nn | .call nn => nn
  | .jpCond _ nn | .callCond _ nn => if formTaken g s then nn else s.pc + 3
  | .jr e => s.pc + 2 + sext e
  | .jrCond _ e | .djnz e => if formTaken g s then s.pc + 2 + sext e else s.pc + 2
  | .jpHl => s.hl
  | .jpIndex x => s.index x
  | .ret | .reti | .retn => s.stackTop
  | .retCond _ => if formTaken g s then s.stackTop else s.pc + 1
  | .rst t => BitVec.ofNat 16 (8 * t.code.toNat)
  | .halt => s.pc
  | .block _ => if formTaken g s then s.pc else s.pc + 2
  | g => s.pc + BitVec.ofNat 16 g.length

/-- The cost of a form that has one cost (R131, the classes of R497). -/
def formBaseCost : Form → Nat
  | .ldRegReg _ _ => 4
  | .ldRegImm _ _ | .ldRegMem _ | .ldMemReg _ => 7
  | .ldMemImm _ => 10
  | .ldRegIdx _ _ _ | .ldIdxReg _ _ _ | .ldIdxImm _ _ _ => 19
  | .ldAccInd _ | .ldIndAcc _ => 7
  | .ldAccAbs _ | .ldAbsAcc _ => 13
  | .ldAccSpecial _ | .ldSpecialAcc _ => 9
  | .ldRegHalf _ _ _ | .ldHalfReg _ _ _ | .ldHalfHalf _ _ _ => 8
  | .ldHalfImm _ _ _ => 11
  | .ldPairImm _ _ => 10
  | .ldIndexImm _ _ => 14
  | .ldHlAbs _ | .ldAbsHl _ => 16
  | .ldPairAbs _ _ | .ldAbsPair _ _ | .ldIndexAbs _ _ | .ldAbsIndex _ _ => 20
  | .ldSpHl => 6
  | .ldSpIndex _ => 10
  | .pushPair _ => 11
  | .popPair _ => 10
  | .pushIndex _ => 15
  | .popIndex _ => 14
  | .exDeHl | .exAf | .exx => 4
  | .exSpHl => 19
  | .exSpIndex _ => 23
  | .aluReg _ _ => 4
  | .aluImm _ _ | .aluMem _ => 7
  | .aluHalf _ _ _ => 8
  | .aluIdx _ _ _ => 19
  | .incReg _ | .decReg _ => 4
  | .incHalf _ _ | .decHalf _ _ => 8
  | .incMem | .decMem => 11
  | .incIdx _ _ | .decIdx _ _ => 23
  | .daa | .cpl | .ccf | .scf => 4
  | .neg => 8
  | .addHl _ => 11
  | .adcHl _ | .sbcHl _ | .addIndex _ _ => 15
  | .incPair _ | .decPair _ => 6
  | .incIndex _ | .decIndex _ => 10
  | .accRot _ => 4
  | .rotReg _ _ | .chgReg _ _ _ => 8
  | .rotMem _ | .chgMem _ _ => 15
  | .rotIdx _ _ _ _ | .chgIdx _ _ _ _ _ => 23
  | .bitReg _ _ => 8
  | .bitMem _ => 12
  | .bitIdx _ _ _ _ => 20
  | .rld | .rrd => 18
  | .jp _ | .jpCond _ _ => 10
  | .jr _ => 12
  | .jrCond _ _ => 7
  | .jpHl => 4
  | .jpIndex _ => 8
  | .djnz _ => 8
  | .call _ => 17
  | .callCond _ _ => 10
  | .ret => 10
  | .retCond _ => 5
  | .reti | .retn => 14
  | .rst _ => 11
  | .block _ => 16
  | .inAcc _ | .outAcc _ => 11
  | .inReg _ | .outReg _ => 12
  | .nop | .halt | .di | .ei => 4
  | .im _ => 8
  | .invalid _ _ => 0

/-- The cost of a form: the base cost, or the taken cost (R131, R497). -/
def formCost (g : Form) (s : State) : Nat :=
  if formTaken g s then
    match g with
    | .jpCond _ _ => 10
    | .jrCond _ _ => 12
    | .djnz _ => 13
    | .callCond _ _ => 17
    | .retCond _ => 11
    | .block _ => 21
    | g => formBaseCost g
  else formBaseCost g

/-! ## What statements say an instruction computes -/

/-- A and F replaced. -/
def State.withAF (s : State) (p : Byte × Byte) : State := { s with regs := { s.regs with a := p.1, f := p.2 } }

/-- HL and F replaced, WZ at the old HL plus one (R300 to R302). -/
def State.withHlF (s : State) (p : Word × Byte) : State :=
  { s with regs := { s.regs with h := hi p.1, l := lo p.1, f := p.2 }, wz := s.hl + 1 }

/-- What each ALU operation makes of A, the operand v and F (R271 to R278). -/
def aluSpec (op : AluOp) (a v f : Byte) : Byte × Byte :=
  match op with
  | .add => add8 a v false
  | .adc => add8 a v (f.getLsbD 0)
  | .sub => sub8 a v false
  | .sbc => sub8 a v (f.getLsbD 0)
  | .and => (a &&& v, sz53p (a &&& v) ||| 0x10)
  | .xor => (a ^^^ v, sz53p (a ^^^ v))
  | .or => (a ||| v, sz53p (a ||| v))
  | .cp => (a, ((sub8 a v false).2 &&& 0xD7) ||| (v &&& 0x28))

/-- F after an accumulator rotate with result r and displaced bit c (45_rotate_shift_bit.md section 2). -/
def accRotFlagsSpec (r : Byte) (c : Bool) (f : Byte) : Byte := (f &&& 0xC4) ||| (r &&& 0x28) ||| (if c then 0x01 else 0x00)

/-- The register file with a byte copied to a register, or as it was (R340). -/
def copiedTo (copy : Option Reg8) (v : Byte) (g : RegFile) : RegFile :=
  match copy with
  | none => g
  | some r => g.set r v

/-- Does the rotate or shift move bits towards bit 7 (R172 to R179)? -/
def rotLeft : RotOp → Bool
  | .rlc | .rl | .sla | .sll => true
  | .rrc | .rr | .sra | .srl => false

/-- The bit a rotate or shift brings in (R172 to R179). -/
def rotIn (k : RotOp) (v : Byte) (c : Bool) : Bool :=
  match k with
  | .rlc => v.getLsbD 7
  | .rrc => v.getLsbD 0
  | .rl | .rr => c
  | .sla | .srl => false
  | .sra => v.getLsbD 7
  | .sll => true

/-- F after BIT of bit b of v, X and Y from xy (R180). -/
def bitSpec (b : Nat) (v xy f : Byte) : Byte :=
  (f &&& 0x01) ||| 0x10 ||| (if v.getLsbD b then 0x00 else 0x44) ||| (if b = 7 ∧ v.getLsbD 7 = true then 0x80 else 0x00)
    ||| (xy &&& 0x28)

/-- A byte with bit b set or cleared (R181, R182). -/
def withBit (v : Byte) (b : Nat) (set : Bool) : Byte :=
  (List.range 8).foldl (fun acc k => acc ||| (if (if k = b then set else v.getLsbD k) then BitVec.ofNat 8 (2 ^ k) else 0)) 0

/-- A byte of two digits. -/
def nibbles (h l : BitVec 4) : Byte := h ++ l

/-- The high digit of a byte. -/
def hiNibble (v : Byte) : BitVec 4 := v.extractLsb' 4 4

/-- The low digit of a byte. -/
def loNibble (v : Byte) : BitVec 4 := v.extractLsb' 0 4

/-- When a condition holds (R116). -/
def condSpec (cc : Cond) (f : Byte) : Bool :=
  match cc with
  | .NZ => f.getLsbD 6 = false
  | .Z => f.getLsbD 6 = true
  | .NC => f.getLsbD 0 = false
  | .C => f.getLsbD 0 = true
  | .PO => f.getLsbD 2 = false
  | .PE => f.getLsbD 2 = true
  | .P => f.getLsbD 7 = false
  | .M => f.getLsbD 7 = true

/-- A pointer stepped down or up by one (47_block.md). -/
def stepBy (down : Bool) (w : Word) : Word := if down then w - 1 else w + 1

/-- The end of an iteration (R390): repeating, PC stays and, for the moves and compares, WZ is the address after it. -/
def blockEnded (again setsWz : Bool) (s : State) : State :=
  if again then ({ s with wz := if setsWz then s.pc + 1 else s.wz }).ended s.pc 21 else s.ended (s.pc + 2) 16

/-- LDI, LDD, LDIR, LDDR by direction and repetition. -/
def moveOp (down rep : Bool) : BlockOp := if rep then (if down then .lddr else .ldir) else (if down then .ldd else .ldi)

/-- CPI, CPD, CPIR, CPDR by direction and repetition. -/
def compareOp (down rep : Bool) : BlockOp := if rep then (if down then .cpdr else .cpir) else (if down then .cpd else .cpi)

/-- INI, IND, INIR, INDR by direction and repetition. -/
def inOp (down rep : Bool) : BlockOp := if rep then (if down then .indr else .inir) else (if down then .ind else .ini)

/-- OUTI, OUTD, OTIR, OTDR by direction and repetition. -/
def outOp (down rep : Bool) : BlockOp := if rep then (if down then .otdr else .otir) else (if down then .outd else .outi)

/-! ## Encodings -/

/-- The second opcode byte of a block instruction (R391 to R406). -/
def blockOpcode : BlockOp → Byte
  | .ldi => 0xA0 | .cpi => 0xA1 | .ini => 0xA2 | .outi => 0xA3
  | .ldd => 0xA8 | .cpd => 0xA9 | .ind => 0xAA | .outd => 0xAB
  | .ldir => 0xB0 | .cpir => 0xB1 | .inir => 0xB2 | .otir => 0xB3
  | .lddr => 0xB8 | .cpdr => 0xB9 | .indr => 0xBA | .otdr => 0xBB

/-- An opcode byte from its fields x, y, z (R112). -/
def xyz (x : BitVec 2) (y z : BitVec 3) : Byte := x ++ y ++ z

/-- An opcode byte from its fields x, p, q, z (R112). -/
def xpqz (x p : BitVec 2) (q : BitVec 1) (z : BitVec 3) : Byte := x ++ p ++ q ++ z

/-- The bytes of a form, from the encoding each instruction's rule gives (R110, R113 to R123), written apart from `encode`. -/
def formBytes (g : Form) : List Byte :=
  match g with
  | .ldRegReg d r => [xyz 1 d.code r.code]
  | .ldRegImm d n => [xyz 0 d.code 6, n]
  | .ldRegMem d => [xyz 1 d.code 6]
  | .ldMemReg r => [xyz 1 6 r.code]
  | .ldMemImm n => [xyz 0 6 6, n]
  | .ldRegIdx r x d => [x.byte, xyz 1 r.code 6, d]
  | .ldIdxReg x d r => [x.byte, xyz 1 6 r.code, d]
  | .ldIdxImm x d n => [x.byte, 0x36, d, n]
  | .ldAccInd .BC => [0x0A]
  | .ldAccInd .DE => [0x1A]
  | .ldIndAcc .BC => [0x02]
  | .ldIndAcc .DE => [0x12]
  | .ldAccAbs nn => [0x3A, lo nn, hi nn]
  | .ldAbsAcc nn => [0x32, lo nn, hi nn]
  | .ldAccSpecial .I => [0xED, 0x57]
  | .ldAccSpecial .R => [0xED, 0x5F]
  | .ldSpecialAcc .I => [0xED, 0x47]
  | .ldSpecialAcc .R => [0xED, 0x4F]
  | .ldRegHalf d x h => [x.byte, xyz 1 d.code h.code]
  | .ldHalfReg x h r => [x.byte, xyz 1 h.code r.code]
  | .ldHalfHalf x h h' => [x.byte, xyz 1 h.code h'.code]
  | .ldHalfImm x h n => [x.byte, xyz 0 h.code 6, n]
  | .ldPairImm p nn => [xpqz 0 p.code 0 1, lo nn, hi nn]
  | .ldIndexImm x nn => [x.byte, 0x21, lo nn, hi nn]
  | .ldHlAbs nn => [0x2A, lo nn, hi nn]
  | .ldPairAbs p nn => [0xED, xpqz 1 p.code 1 3, lo nn, hi nn]
  | .ldIndexAbs x nn => [x.byte, 0x2A, lo nn, hi nn]
  | .ldAbsHl nn => [0x22, lo nn, hi nn]
  | .ldAbsPair p nn => [0xED, xpqz 1 p.code 0 3, lo nn, hi nn]
  | .ldAbsIndex x nn => [x.byte, 0x22, lo nn, hi nn]
  | .ldSpHl => [0xF9]
  | .ldSpIndex x => [x.byte, 0xF9]
  | .pushPair q => [xpqz 3 q.code 0 5]
  | .pushIndex x => [x.byte, 0xE5]
  | .popPair q => [xpqz 3 q.code 0 1]
  | .popIndex x => [x.byte, 0xE1]
  | .exDeHl => [0xEB]
  | .exAf => [0x08]
  | .exx => [0xD9]
  | .exSpHl => [0xE3]
  | .exSpIndex x => [x.byte, 0xE3]
  | .aluReg op r => [xyz 2 op.code r.code]
  | .aluMem op => [xyz 2 op.code 6]
  | .aluImm op n => [xyz 3 op.code 6, n]
  | .aluHalf op x h => [x.byte, xyz 2 op.code h.code]
  | .aluIdx op x d => [x.byte, xyz 2 op.code 6, d]
  | .incReg r => [xyz 0 r.code 4]
  | .incHalf x h => [x.byte, xyz 0 h.code 4]
  | .incMem => [0x34]
  | .incIdx x d => [x.byte, 0x34, d]
  | .decReg r => [xyz 0 r.code 5]
  | .decHalf x h => [x.byte, xyz 0 h.code 5]
  | .decMem => [0x35]
  | .decIdx x d => [x.byte, 0x35, d]
  | .daa => [0x27]
  | .cpl => [0x2F]
  | .neg => [0xED, 0x44]
  | .ccf => [0x3F]
  | .scf => [0x37]
  | .addHl p => [xpqz 0 p.code 1 1]
  | .adcHl p => [0xED, xpqz 1 p.code 1 2]
  | .sbcHl p => [0xED, xpqz 1 p.code 0 2]
  | .addIndex x p => [x.byte, xpqz 0 p.code 1 1]
  | .incPair p => [xpqz 0 p.code 0 3]
  | .incIndex x => [x.byte, 0x23]
  | .decPair p => [xpqz 0 p.code 1 3]
  | .decIndex x => [x.byte, 0x2B]
  | .accRot .rlca => [0x07]
  | .accRot .rrca => [0x0F]
  | .accRot .rla => [0x17]
  | .accRot .rra => [0x1F]
  | .rotReg k r => [0xCB, xyz 0 k.code r.code]
  | .rotMem k => [0xCB, xyz 0 k.code 6]
  | .rotIdx k x d copy => [x.byte, 0xCB, d, xyz 0 k.code (copyCode copy)]
  | .bitReg b r => [0xCB, xyz 1 b.code r.code]
  | .bitMem b => [0xCB, xyz 1 b.code 6]
  | .bitIdx b x d z => [x.byte, 0xCB, d, xyz 1 b.code z]
  | .chgReg set b r => [0xCB, xyz (if set then 3 else 2) b.code r.code]
  | .chgMem set b => [0xCB, xyz (if set then 3 else 2) b.code 6]
  | .chgIdx set b x d copy => [x.byte, 0xCB, d, xyz (if set then 3 else 2) b.code (copyCode copy)]
  | .rld => [0xED, 0x6F]
  | .rrd => [0xED, 0x67]
  | .jp nn => [0xC3, lo nn, hi nn]
  | .jpCond cc nn => [xyz 3 cc.code 2, lo nn, hi nn]
  | .jr e => [0x18, e]
  | .jrCond .NZ e => [0x20, e]
  | .jrCond .Z e => [0x28, e]
  | .jrCond .NC e => [0x30, e]
  | .jrCond .C e => [0x38, e]
  | .jpHl => [0xE9]
  | .jpIndex x => [x.byte, 0xE9]
  | .djnz e => [0x10, e]
  | .call nn => [0xCD, lo nn, hi nn]
  | .callCond cc nn => [xyz 3 cc.code 4, lo nn, hi nn]
  | .ret => [0xC9]
  | .retCond cc => [xyz 3 cc.code 0]
  | .reti => [0xED, 0x4D]
  | .retn => [0xED, 0x45]
  | .rst t => [xyz 3 t.code 7]
  | .block k => [0xED, blockOpcode k]
  | .inAcc n => [0xDB, n]
  | .inReg r => [0xED, xyz 1 r.code 0]
  | .outAcc n => [0xD3, n]
  | .outReg r => [0xED, xyz 1 r.code 1]
  | .nop => [0x00]
  | .halt => [0x76]
  | .di => [0xF3]
  | .ei => [0xFB]
  | .im .im0 => [0xED, 0x46]
  | .im .im1 => [0xED, 0x56]
  | .im .im2 => [0xED, 0x5E]
  | .invalid p op => [p.byte, op]

end Sys2Proof.Machine
end

