-- ==== Sys2Proof/Certificates/Slice0/Obligations.lean ====
section
/-! DEFINITION. The statements for the provers. An instruction is named by its form: `Form.toInstr` gives its constructor, and
every constructor is that of a form (`Sys2Proof.Laws.HasForm`). -/

open Sys2Proof Sys2Proof.Machine

/-! ## Encoding and decoding -/

/-- Every well-formed instruction's bytes, whatever follows them, decode to it and to their own length (R110, R111). -/
def Obligations.EncodeThenDecode : Prop :=
  ∀ (i : Instr) (rest : List Byte), i.wellFormed = true →
    decode (encode i ++ rest) = .ok (i, (encode i).length)

/-- Whatever decodes is well-formed, is between one and four bytes long, and is the encoding of what it decodes to: every instruction
has one encoding (R110, R111). -/
def Obligations.DecodeThenEncode : Prop :=
  ∀ (bytes : List Byte) (i : Instr) (n : Nat), decode bytes = .ok (i, n) →
    i.wellFormed = true ∧ encode i = bytes.take n ∧ n ≤ bytes.length ∧ 1 ≤ n ∧ n ≤ 4

/-- A few words written from the spec's encodings decode to the instructions they stand for. -/
def Obligations.WrittenWordsDecode : Prop :=
  decode [0x06, 0x03] = .ok (.ld_B_n 0x03, 2)
    ∧ decode [0x31, 0x00, 0xF0] = .ok (.ld_SP_nn 0xF000, 3)
    ∧ decode [0x76] = .ok (.halt, 1)
    ∧ decode [0x10, 0xFD] = .ok (.djnz_e 0xFD, 2)
    ∧ decode [0xED, 0xB0] = .ok (.ldir, 2)
    ∧ decode [0xED, 0x5A] = .ok (.adc_HL_DE, 2)
    ∧ decode [0xDD, 0x7E, 0xFF] = .ok (.ld_A_atIXd 0xFF, 3)
    ∧ decode [0xDD, 0x65] = .ok (.ld_IXH_IXL, 2)
    ∧ decode [0xFD, 0xCB, 0xFF, 0x84] = .ok (.res_0_atIYd_to_H 0xFF, 4)
    ∧ decode [0xDD, 0xCB, 0x10, 0x46] = .ok (.bit_0_atIXd 0x10 6, 4)
    ∧ decode [0xDD, 0xDD] = .ok (.invalid .DD 0xDD, 2)

/-- Every form's instruction is encoded as its rule's encoding says, the fields in their places (R112 to R123). -/
def Obligations.FormsHaveTheirEncodings : Prop :=
  ∀ g : Form, encode g.toInstr = formBytes g ∧ g.length = (formBytes g).length

/-- Exactly the listed opcodes are defined: after ED the 58 of R124, after DD and FD the 85 of R125 and CB; every primary opcode, every CB
opcode and every DD CB and FD CB sub-opcode is defined (R126, R132). -/
def Obligations.DefinedOpcodes : Prop :=
  definedED.length = 58 ∧ definedXY.length = 85 ∧
  (∀ (p : OpPrefix) (op q r : Byte) (g : Form), decodeForm [p.byte, op, q, r] = .ok g →
    ((∃ p' op', g = .invalid p' op') ↔ definedAfter p op = false)) ∧
  (∀ (p : OpPrefix) (op q r : Byte), definedAfter p op = false → decodeForm [p.byte, op, q, r] = .ok (.invalid p op)) ∧
  (∀ (b0 b1 b2 b3 : Byte), b0 ≠ 0xED → b0 ≠ 0xDD → b0 ≠ 0xFD →
    ∃ g, decodeForm [b0, b1, b2, b3] = .ok g ∧ ∀ p' op', g ≠ .invalid p' op') ∧
  (∀ (x : Index) (d sub : Byte), ∃ g, decodeForm [x.byte, 0xCB, d, sub] = .ok g ∧ ∀ p' op', g ≠ .invalid p' op')

/-! ## The step -/

/-- When the four bytes at PC decode to an instruction whose bytes may be fetched, and when the bytes of a well-formed instruction stand at PC on pages that
may be read, a step is `exec` of that instruction at that state; nothing is added around it (R78, R111). -/
def Obligations.StepRunsTheInstruction : Prop :=
  (∀ (s : State) (i : Instr) (n : Nat), decode (s.instructionBytes s.pc) = .ok (i, n) →
    (∀ k, k < n → s.canRead (s.pc + BitVec.ofNat 16 k) = true) → step s = exec i s) ∧
  (∀ (s : State) (i : Instr), i.wellFormed = true → s.holdsCode s.pc (encode i) → step s = exec i s)

/-- A fetch that meets a page that may not be read ends the step at the first such byte of the instruction, a read, with no data access
(R78, R452, R456). -/
def Obligations.FetchFaultsAtTheFirstUnreadableByte : Prop :=
  ∀ (s : State) (i : Instr) (n k : Nat), decode (s.instructionBytes s.pc) = .ok (i, n) → k < n →
    (∀ j, j < k → s.canRead (s.pc + BitVec.ofNat 16 j) = true) →
    s.canRead (s.pc + BitVec.ofNat 16 k) = false →
    step s = .fault (.badAccess s.pc (s.pc + BitVec.ofNat 16 k) .read)

/-- An undefined opcode's instruction stops with `InvalidInstruction(pc0, [prefix, op])` from every state, and so does a step at its two bytes
(R126, R451). -/
def Obligations.UndefinedOpcodeFaults : Prop :=
  (∀ (p : OpPrefix) (op : Byte) (s : State), exec (.invalid p op) s = .fault (.invalidInstruction s.pc p.byte op)) ∧
  (∀ (p : OpPrefix) (op : Byte) (s : State), definedAfter p op = false → s.holdsCode s.pc [p.byte, op] →
    step s = .fault (.invalidInstruction s.pc p.byte op))

/-- The invariant holds after every step from a state in which it holds. -/
def Obligations.StepKeepsInvariant : Prop :=
  ∀ s t : State, s.Inv → step s = .next t → t.Inv

/-- The invariant holds after reset. -/
def Obligations.ResetMeetsInvariant : Prop := State.reset.Inv

/-- No step changes what is fixed at construction or belongs to the debugger: the page attributes (R71), the slots (R462), the mode (R43), the
breakpoint map and debug flag (R44), how many devices there are; nor the shutdown requests, which is the model's choice, log entry 14: R466 lets devices push requests, and the model
takes them between steps only. -/
def Obligations.StepKeepsConfiguration : Prop :=
  ∀ s t : State, step s = .next t →
    t.pages = s.pages ∧ t.slots = s.slots ∧ t.mode = s.mode ∧ t.breakpoints = s.breakpoints ∧ t.debugFlag = s.debugFlag
      ∧ t.shutdownReasons = s.shutdownReasons ∧ t.devices.length = s.devices.length

/-- The registers an instruction does not write keep their values: for every form, every register outside `formWrites`. -/
def Obligations.RegisterFrame : Prop :=
  ∀ (g : Form) (s t : State) (n : RegName), exec g.toInstr s = .next t → n ∉ formWrites g → t.value n = s.value n

/-- The flags an instruction does not write keep their values: for every form, the bits of F outside `formFlags`. -/
def Obligations.FlagFrame : Prop :=
  ∀ (g : Form) (s t : State), exec g.toInstr s = .next t →
    t.regs.f &&& ~~~ (formFlags g) = s.regs.f &&& ~~~ (formFlags g)

/-- Memory an instruction does not store to keeps its contents: for every form, every address outside `formStores`; a form that stores
nothing leaves every byte. -/
def Obligations.MemoryFrame : Prop :=
  ∀ (g : Form) (s t : State) (a : Word), exec g.toInstr s = .next t → a ∉ formStores g s → t.peek a = s.peek a

/-- Only IN, OUT and the block I/O instructions touch a port: every other form leaves the devices, the environment and the trace (R70). -/
def Obligations.PortFrame : Prop :=
  ∀ (g : Form) (s t : State), formUsesPorts g = false → exec g.toInstr s = .next t →
    t.devices = s.devices ∧ t.ioIn = s.ioIn ∧ t.ioDraws = s.ioDraws ∧ t.ioTrace = s.ioTrace

/-- PC and the cycle accumulator after an instruction that completes: PC at the next instruction unless the form transfers, repeats or halts,
and the cost of the table added modulo 2^64 (R130, R131, R497). -/
def Obligations.PcAndCyclesAfter : Prop :=
  ∀ (g : Form) (s t : State), exec g.toInstr s = .next t →
    t.pc = formPcAfter g s ∧ t.cycles = s.cycles + BitVec.ofNat 64 (formCost g s)

/-- An instruction makes its data accesses in their order: it completes when the page attributes permit them all, and the first that they do not
permit ends it with `BadAccess` (R83, R452, R456). Every defined instruction completes somewhere. -/
def Obligations.CompletesUnlessAnAccessIsForbidden : Prop :=
  ∀ (g : Form) (s : State), (∀ p op, g ≠ .invalid p op) →
    match (formAccesses g s).find? (fun x => !s.permits x) with
    | none => ∃ t, exec g.toInstr s = .next t
    | some x => exec g.toInstr s = .fault (.badAccess s.pc x.addr x.kind)

/-- No instruction is refused; a fault names the instruction's own address, and is `BadAccess` for an access that the page attributes forbid or
`InvalidInstruction` for an undefined opcode; `Halt` is reported by HALT alone, with its address (R450, R453, R458). -/
def Obligations.ConditionsArePrecise : Prop :=
  ∀ (i : Instr) (s : State),
    match exec i s with
    | .next t => (i = .halt → t.result = .halt s.pc) ∧ (i ≠ .halt → t.result = .ok)
    | .fault (.badAccess pc a k) => pc = s.pc ∧ s.permits ⟨k, a⟩ = false
    | .fault (.invalidInstruction pc pre op) => pc = s.pc ∧ ∃ p : OpPrefix, pre = p.byte ∧ i = .invalid p op
    | .refused _ => False

/-- What an instruction does depends on no mode, breakpoint, cycle count, IM, IFF1 or earlier result (R39, R40, R42, R43, R44, R460, R496): from two
states that differ in these alone it ends alike, and the next states differ in these alone. -/
def Obligations.HiddenStateIsNotRead : Prop :=
  ∀ (i : Instr) (s : State) (m : Mode) (d : Bool) (b : List Breakpoint) (c : BitVec 64) (im : BitVec 2) (f1 : Bool)
    (r : StepResult),
    match exec i s, exec i { s with mode := m, debugFlag := d, breakpoints := b, cycles := c, im := im, iff1 := f1, result := r } with
    | .next t, .next t' =>
      { t' with mode := t.mode, debugFlag := t.debugFlag, breakpoints := t.breakpoints, cycles := t.cycles, im := t.im,
                iff1 := t.iff1, result := t.result } = t
    | .fault f, .fault f' => f = f'
    | _, _ => False

/-! ## Reset, memory and the stack -/

/-- Cold reset: every register zero, interrupts disabled, IM 0, `cycles` 0, no breakpoint, the mode the construction argument, and the first fetch
from 0x0000. -/
def Obligations.ColdReset : Prop :=
  ∀ (bus : Bus) (m : Mode),
    (State.cold bus m).af = 0x0000 ∧ (State.cold bus m).bc = 0x0000 ∧ (State.cold bus m).de = 0x0000
      ∧ (State.cold bus m).hl = 0x0000 ∧ (State.cold bus m).afAlt = 0x0000 ∧ (State.cold bus m).bcAlt = 0x0000
      ∧ (State.cold bus m).deAlt = 0x0000 ∧ (State.cold bus m).hlAlt = 0x0000 ∧ (State.cold bus m).ix = 0x0000
      ∧ (State.cold bus m).iy = 0x0000 ∧ (State.cold bus m).sp = 0x0000 ∧ (State.cold bus m).pc = 0x0000
      ∧ (State.cold bus m).iff1 = false ∧ (State.cold bus m).iff2 = false ∧ (State.cold bus m).i = 0x00
      ∧ (State.cold bus m).r = 0x00 ∧ (State.cold bus m).im = 0 ∧ (State.cold bus m).wz = 0x0000
      ∧ (State.cold bus m).cycles = 0 ∧ (State.cold bus m).breakpoints = [] ∧ (State.cold bus m).debugFlag = false
      ∧ (State.cold bus m).mode = m
      ∧ (State.cold bus m).fetchForm = decodeWith (fun k => (State.cold bus m).memRead (0x0000 + BitVec.ofNat 16 k))

/-- A write to a page that is not writable raises `BadAccess` and stores nothing; a write to one that is stores the byte: a later read returns it while
the page is readable, and every other address reads as before (R72, R73). -/
def Obligations.ReadAfterWrite : Prop :=
  ∀ (s : State) (a : Word) (v : Byte), Memory.wf s.mem = true →
    (s.canWrite a = false → s.memWrite a v = .error (.badAccess s.pc a .write)) ∧
    (s.canWrite a = true → ∃ t, s.memWrite a v = .ok t ∧ Memory.wf t.mem = true ∧
      (s.canRead a = true → t.memRead a = .ok v) ∧
      (s.canRead a = false → t.memRead a = .error (.badAccess s.pc a .read)) ∧
      (∀ b : Word, b ≠ a → t.memRead b = s.memRead b))

/-- A word access is two byte accesses, low byte first, at consecutive addresses modulo 2^16, not atomic: a word is read back as it was written, and a
write whose second byte is forbidden fails there (R74). -/
def Obligations.WordAccess : Prop :=
  (∀ (s : State) (a : Word), s.canRead a = true → s.canRead (a + 1) = true →
    s.memRead16 a = .ok (join (s.peek (a + 1)) (s.peek a))) ∧
  (∀ (s : State) (a : Word), s.canRead a = false → s.memRead16 a = .error (.badAccess s.pc a .read)) ∧
  (∀ (s : State) (a : Word), s.canRead a = true → s.canRead (a + 1) = false →
    s.memRead16 a = .error (.badAccess s.pc (a + 1) .read)) ∧
  (∀ (s : State) (a v : Word), s.canWrite a = true → s.canWrite (a + 1) = true →
    s.memWrite16 a v = .ok ((s.poke a (lo v)).poke (a + 1) (hi v))) ∧
  (∀ (s : State) (a v : Word), s.canWrite a = false → s.memWrite16 a v = .error (.badAccess s.pc a .write)) ∧
  (∀ (s : State) (a v : Word), s.canWrite a = true → s.canWrite (a + 1) = false →
    s.memWrite16 a v = .error (.badAccess s.pc (a + 1) .write)) ∧
  (∀ (s : State) (a v : Word), Memory.wf s.mem = true → s.canWrite a = true → s.canWrite (a + 1) = true →
    s.canRead a = true → s.canRead (a + 1) = true → ∃ t, s.memWrite16 a v = .ok t ∧ t.memRead16 a = .ok v)

/-- `PUSH qq` then `POP qq` restores every register, all eight bits of F among them (R250, R252). -/
def Obligations.PushThenPop : Prop :=
  ∀ (q : StackPair) (s : State), Memory.wf s.mem = true →
    s.canWrite (s.sp - 1) = true → s.canWrite (s.sp - 2) = true →
    s.canRead (s.sp - 1) = true → s.canRead (s.sp - 2) = true →
    ∃ t u, exec (Form.pushPair q).toInstr s = .next t ∧ exec (Form.popPair q).toInstr t = .next u
      ∧ u.regs = s.regs ∧ u.sp = s.sp ∧ t.sp = s.sp - 2
      ∧ t.peek (s.sp - 1) = hi (s.stackPair q) ∧ t.peek (s.sp - 2) = lo (s.stackPair q)

/-- `load` stores bytes whatever the page attributes and fails, changing nothing, when they would run off the end; `dump` copies the loaded bytes out;
every other byte and every register keeps its value (R85, R470). -/
def Obligations.LoadThenDump : Prop :=
  ∀ (s : State) (a : Nat) (bytes : List Byte), Memory.wf s.mem = true →
    (addressCount < a + bytes.length → s.load a bytes = none) ∧
    (a + bytes.length ≤ addressCount → ∃ t, s.load a bytes = some t ∧ Memory.wf t.mem = true ∧
      t.dump a bytes.length = some bytes ∧
      (∀ b : Word, b.toNat < a ∨ a + bytes.length ≤ b.toNat → t.peek b = s.peek b) ∧
      { t with mem := s.mem } = s)

/-- Building the bus: a region whose size is not a multiple of 1 KiB, that extends past 64 KiB, or whose image does not fit makes construction fail; with
no such region it succeeds, and a page takes the attributes of the last declaration that covers it (R84). Three clauses rest on the model's choices, log entry 12: that construction
succeeds whatever the device declarations and the regions' bases (a base that begins no page, a region of size 0 and device ports past 0xFF are accepted), that a region covers a page when it
holds any address of it (`Region.covers`), and that a page no region covers is unmapped. -/
def Obligations.BusConstruction : Prop :=
  ∀ (regions : List Region) (decls : List DeviceDecl),
    ((∃ r ∈ regions, r.size % 1024 ≠ 0 ∨ 65536 < r.base + r.size ∨ r.size < r.image.length) →
      ∃ e, buildBus regions decls = .error e) ∧
    ((∀ r ∈ regions, r.size % 1024 = 0 ∧ r.base + r.size ≤ 65536 ∧ r.image.length ≤ r.size) →
      ∃ b, buildBus regions decls = .ok b ∧ Memory.wf b.mem = true ∧
        (∀ (early late : List Region) (r : Region) (p : Fin 64), regions = early ++ r :: late → r.covers p.val = true →
          (∀ r' ∈ late, r'.covers p.val = false) → b.pages[p] = r.attr) ∧
        (∀ p : Fin 64, (∀ r ∈ regions, r.covers p.val = false) → b.pages[p] = PageAttr.unmapped))

/-! ## The wrapper, a run and the disassembler -/

/-- The breakpoint wrapper: after an `Ok` at the address of a breakpoint the result is `Breakpoint(PC, callback)` and the instruction's effects are kept; in every
other case the inner step's answer (R454). -/
def Obligations.BreakpointWrapper : Prop :=
  ∀ s : State,
    (∀ t b, step s = .next t → t.result = .ok → t.breakpointAt t.pc = some b →
      debugStep s = .next { t with result := .breakpoint t.pc b.callback }) ∧
    (∀ t, step s = .next t → t.breakpointAt t.pc = none → debugStep s = .next t) ∧
    (∀ t p, step s = .next t → t.result = .halt p → debugStep s = .next t) ∧
    (∀ f, step s = .fault f → debugStep s = .fault f)

/-- The breakpoint map: setting inserts and sets the debug flag, deleting removes and clears the flag when the map becomes empty, and both keep the map's form
(R44, R468). -/
def Obligations.BreakpointMap : Prop :=
  ∀ (s : State) (a : Word) (c : Option Nat), s.Inv →
    (s.setBreakpoint a c).Inv ∧ (s.deleteBreakpoint a).Inv ∧
    (s.setBreakpoint a c).debugFlag = true ∧ (s.setBreakpoint a c).breakpointAt a = some ⟨a.toNat, c⟩ ∧
    (∀ b : Word, b ≠ a → (s.setBreakpoint a c).breakpointAt b = s.breakpointAt b) ∧
    (s.deleteBreakpoint a).breakpointAt a = none ∧
    (∀ b : Word, b ≠ a → (s.deleteBreakpoint a).breakpointAt b = s.breakpointAt b) ∧
    (∀ b : Word, b.toNat ∈ s.listBreakpoints ↔ (s.breakpointAt b).isSome = true)

/-- A run that ends at `Halt` took steps that ended with `Ok`, then a HALT step after which PC stands at the HALT byte; a run that faults does so at a step that
faults; a run that finds a shutdown request stops before any further step and changes nothing (R466, R469, R471). That the driver polls before the first step too, so
that a request pending at the start stops the run before it, is the model's choice, log entry 14. -/
def Obligations.RunEnds : Prop :=
  (∀ (n : Nat) (s t : State), drive n s = .halted t →
    ∃ k u, k < n ∧ Sys2Proof.core.run k s = .next u ∧ step u = .next t ∧ t.result = .halt u.pc ∧ t.pc = u.pc
      ∧ ∀ j v, 0 < j → j ≤ k → Sys2Proof.core.run j s = .next v → v.result = .ok) ∧
  (∀ (n : Nat) (s : State) (f : Fault), drive n s = .faulted f →
    ∃ k u, k < n ∧ Sys2Proof.core.run k s = .next u ∧ step u = .fault f) ∧
  (∀ (n : Nat) (s : State), s.shutdownReasons ≠ [] → drive (n + 1) s = .shutdown s)

/-- The disassembler's length is the executor's advance of PC for every instruction that does not transfer, repeat or halt, and 2 for an undefined opcode
(R133). -/
def Obligations.DisassemblerLength : Prop :=
  ∀ (s : State) (g : Form), s.fetchForm = .ok g →
    (∃ d, s.disassemble s.pc = some d ∧ d.length = g.length ∧
      (∀ t, step s = .next t → formPcAfter g s = s.pc + BitVec.ofNat 16 g.length → t.pc = s.pc + BitVec.ofNat 16 d.length)) ∧
    (∀ p op, g = .invalid p op → g.length = 2)

/-! ## 8-bit loads -/

/-- `LD r,r'` and `LD r,n` complete in every state, the loads and stores through HL when the page of HL permits them; nothing else changes but PC and cycles
(R200 to R204). -/
def Obligations.LoadRegisterAndHL : Prop :=
  (∀ (d r : Reg8) (s : State),
    encode (Form.ldRegReg d r).toInstr = [xyz 1 d.code r.code] ∧
    exec (Form.ldRegReg d r).toInstr s = .next (({ s with regs := s.regs.set d (s.regs.get r) }).ended (s.pc + 1) 4)) ∧
  (∀ (d : Reg8) (n : Byte) (s : State),
    encode (Form.ldRegImm d n).toInstr = [xyz 0 d.code 6, n] ∧
    exec (Form.ldRegImm d n).toInstr s = .next (({ s with regs := s.regs.set d n }).ended (s.pc + 2) 7)) ∧
  (∀ (d : Reg8) (s : State), s.canRead s.hl = true →
    encode (Form.ldRegMem d).toInstr = [xyz 1 d.code 6] ∧
    exec (Form.ldRegMem d).toInstr s = .next (({ s with regs := s.regs.set d (s.peek s.hl) }).ended (s.pc + 1) 7)) ∧
  (∀ (r : Reg8) (s : State), s.canWrite s.hl = true →
    encode (Form.ldMemReg r).toInstr = [xyz 1 6 r.code] ∧
    exec (Form.ldMemReg r).toInstr s = .next ((s.poke s.hl (s.regs.get r)).ended (s.pc + 1) 7)) ∧
  (∀ (n : Byte) (s : State), s.canWrite s.hl = true →
    encode (Form.ldMemImm n).toInstr = [xyz 0 6 6, n] ∧
    exec (Form.ldMemImm n).toInstr s = .next ((s.poke s.hl n).ended (s.pc + 2) 10))

/-- Indexed loads and stores complete when the page of the operand's address permits them; they set WZ to the address, and H and L are the real H
and L (R205, R206, R207, R120). -/
def Obligations.LoadIndexed : Prop :=
  (∀ (r : Reg8) (x : Index) (d : Byte) (s : State), s.canRead (s.index x + sext d) = true →
    encode (Form.ldRegIdx r x d).toInstr = [x.byte, xyz 1 r.code 6, d] ∧
    exec (Form.ldRegIdx r x d).toInstr s = .next
      (({ s with wz := s.index x + sext d, regs := s.regs.set r (s.peek (s.index x + sext d)) }).ended (s.pc + 3) 19)) ∧
  (∀ (x : Index) (d : Byte) (r : Reg8) (s : State), s.canWrite (s.index x + sext d) = true →
    encode (Form.ldIdxReg x d r).toInstr = [x.byte, xyz 1 6 r.code, d] ∧
    exec (Form.ldIdxReg x d r).toInstr s = .next
      (({ s.poke (s.index x + sext d) (s.regs.get r) with wz := s.index x + sext d }).ended (s.pc + 3) 19)) ∧
  (∀ (x : Index) (d n : Byte) (s : State), s.canWrite (s.index x + sext d) = true →
    encode (Form.ldIdxImm x d n).toInstr = [x.byte, 0x36, d, n] ∧
    exec (Form.ldIdxImm x d n).toInstr s = .next
      (({ s.poke (s.index x + sext d) n with wz := s.index x + sext d }).ended (s.pc + 4) 19))

/-- The accumulator's loads and stores at an address in BC, DE or nn, with what they leave in WZ (R208 to R213). -/
def Obligations.LoadAccumulator : Prop :=
  (∀ (p : AccPointer) (s : State), s.canRead (s.accPointer p) = true →
    encode (Form.ldAccInd p).toInstr = formBytes (.ldAccInd p) ∧
    exec (Form.ldAccInd p).toInstr s = .next
      (({ s with regs := { s.regs with a := s.peek (s.accPointer p) }, wz := s.accPointer p + 1 }).ended (s.pc + 1) 7)) ∧
  (∀ (p : AccPointer) (s : State), s.canWrite (s.accPointer p) = true →
    encode (Form.ldIndAcc p).toInstr = formBytes (.ldIndAcc p) ∧
    exec (Form.ldIndAcc p).toInstr s = .next
      (({ s.poke (s.accPointer p) s.regs.a with wz := join s.regs.a (lo (s.accPointer p) + 1) }).ended (s.pc + 1) 7)) ∧
  (∀ (nn : Word) (s : State), s.canRead nn = true →
    encode (Form.ldAccAbs nn).toInstr = [0x3A, lo nn, hi nn] ∧
    exec (Form.ldAccAbs nn).toInstr s = .next
      (({ s with regs := { s.regs with a := s.peek nn }, wz := nn + 1 }).ended (s.pc + 3) 13)) ∧
  (∀ (nn : Word) (s : State), s.canWrite nn = true →
    encode (Form.ldAbsAcc nn).toInstr = [0x32, lo nn, hi nn] ∧
    exec (Form.ldAbsAcc nn).toInstr s = .next
      (({ s.poke nn s.regs.a with wz := join s.regs.a (lo (nn + 1)) }).ended (s.pc + 3) 13))

/-- `LD A,I` and `LD A,R` copy the register, IFF2 into PV, and keep C; `LD I,A` and `LD R,A` change no flag (R214 to R217). -/
def Obligations.LoadSpecialRegisters : Prop :=
  (∀ s : State, encode (Form.ldAccSpecial .I).toInstr = [0xED, 0x57] ∧
    exec (Form.ldAccSpecial .I).toInstr s = .next (({ s with regs := { s.regs with
      a := s.i, f := (s.regs.f &&& 0x01) ||| sz53 s.i ||| (if s.iff2 then 0x04 else 0x00) } }).ended (s.pc + 2) 9)) ∧
  (∀ s : State, encode (Form.ldAccSpecial .R).toInstr = [0xED, 0x5F] ∧
    exec (Form.ldAccSpecial .R).toInstr s = .next (({ s with regs := { s.regs with
      a := s.r, f := (s.regs.f &&& 0x01) ||| sz53 s.r ||| (if s.iff2 then 0x04 else 0x00) } }).ended (s.pc + 2) 9)) ∧
  (∀ s : State, encode (Form.ldSpecialAcc .I).toInstr = [0xED, 0x47] ∧
    exec (Form.ldSpecialAcc .I).toInstr s = .next (({ s with i := s.regs.a }).ended (s.pc + 2) 9)) ∧
  (∀ s : State, encode (Form.ldSpecialAcc .R).toInstr = [0xED, 0x4F] ∧
    exec (Form.ldSpecialAcc .R).toInstr s = .next (({ s with r := s.regs.a }).ended (s.pc + 2) 9))

/-- The half-index loads: a half takes the place of H or L, its other half is unchanged (R218, R219, R34). -/
def Obligations.LoadHalfIndex : Prop :=
  (∀ (d : PlainReg) (x : Index) (h : Half) (s : State), encode (Form.ldRegHalf d x h).toInstr = [x.byte, xyz 1 d.code h.code] ∧
    exec (Form.ldRegHalf d x h).toInstr s = .next
      (({ s with regs := s.regs.set (plainReg d) (s.half x h) }).ended (s.pc + 2) 8)) ∧
  (∀ (x : Index) (h : Half) (r : PlainReg) (s : State), encode (Form.ldHalfReg x h r).toInstr = [x.byte, xyz 1 h.code r.code] ∧
    ∃ t, exec (Form.ldHalfReg x h r).toInstr s = .next t
      ∧ t.half x h = s.regs.get (plainReg r) ∧ (∀ x' h', (x', h') ≠ (x, h) → t.half x' h' = s.half x' h')
      ∧ ({ t with ix := s.ix, iy := s.iy }) = s.ended (s.pc + 2) 8) ∧
  (∀ (x : Index) (h h' : Half) (s : State), encode (Form.ldHalfHalf x h h').toInstr = [x.byte, xyz 1 h.code h'.code] ∧
    ∃ t, exec (Form.ldHalfHalf x h h').toInstr s = .next t
      ∧ t.half x h = s.half x h' ∧ (∀ y k, (y, k) ≠ (x, h) → t.half y k = s.half y k)
      ∧ ({ t with ix := s.ix, iy := s.iy }) = s.ended (s.pc + 2) 8) ∧
  (∀ (x : Index) (h : Half) (n : Byte) (s : State), encode (Form.ldHalfImm x h n).toInstr = [x.byte, xyz 0 h.code 6, n] ∧
    ∃ t, exec (Form.ldHalfImm x h n).toInstr s = .next t
      ∧ t.half x h = n ∧ (∀ y k, (y, k) ≠ (x, h) → t.half y k = s.half y k)
      ∧ ({ t with ix := s.ix, iy := s.iy }) = s.ended (s.pc + 3) 11)

/-! ## 16-bit loads, stack and exchange -/

/-- The immediate loads of a pair, an index register and SP (R240, R241, R248, R249). -/
def Obligations.LoadPairImmediate : Prop :=
  (∀ (p : Pair) (nn : Word) (s : State),
    encode (Form.ldPairImm p nn).toInstr = [xpqz 0 p.code 0 1, lo nn, hi nn] ∧
    exec (Form.ldPairImm p nn).toInstr s = .next ((s.setPair p nn).ended (s.pc + 3) 10)) ∧
  (∀ (nn : Word) (s : State), encode (Form.ldIndexImm .IX nn).toInstr = [0xDD, 0x21, lo nn, hi nn] ∧
    exec (Form.ldIndexImm .IX nn).toInstr s = .next (({ s with ix := nn }).ended (s.pc + 4) 14)) ∧
  (∀ (nn : Word) (s : State), encode (Form.ldIndexImm .IY nn).toInstr = [0xFD, 0x21, lo nn, hi nn] ∧
    exec (Form.ldIndexImm .IY nn).toInstr s = .next (({ s with iy := nn }).ended (s.pc + 4) 14)) ∧
  (∀ s : State, encode (Form.ldSpHl).toInstr = [0xF9] ∧
    exec (Form.ldSpHl).toInstr s = .next (({ s with sp := s.hl }).ended (s.pc + 1) 6)) ∧
  (∀ (x : Index) (s : State), encode (Form.ldSpIndex x).toInstr = [x.byte, 0xF9] ∧
    exec (Form.ldSpIndex x).toInstr s = .next (({ s with sp := s.index x }).ended (s.pc + 2) 10)) ∧
  (∀ (p p' : Pair) (w : Word) (s : State), (s.setPair p w).pair p' = if p' = p then w else s.pair p')

/-- The loads of a word from memory and the stores of a word, the low byte at nn first; WZ takes nn + 1 (R242 to R247). -/
def Obligations.LoadAndStoreWord : Prop :=
  (∀ (nn : Word) (s : State), s.canRead nn = true → s.canRead (nn + 1) = true →
    encode (Form.ldHlAbs nn).toInstr = [0x2A, lo nn, hi nn] ∧
    exec (Form.ldHlAbs nn).toInstr s = .next (({ s with
      regs := { s.regs with l := s.peek nn, h := s.peek (nn + 1) }, wz := nn + 1 }).ended (s.pc + 3) 16)) ∧
  (∀ (p : Pair) (nn : Word) (s : State), s.canRead nn = true → s.canRead (nn + 1) = true →
    encode (Form.ldPairAbs p nn).toInstr = [0xED, xpqz 1 p.code 1 3, lo nn, hi nn] ∧
    exec (Form.ldPairAbs p nn).toInstr s = .next
      (({ s.setPair p (join (s.peek (nn + 1)) (s.peek nn)) with wz := nn + 1 }).ended (s.pc + 4) 20)) ∧
  (∀ (nn : Word) (s : State), s.canRead nn = true → s.canRead (nn + 1) = true →
    encode (Form.ldIndexAbs .IX nn).toInstr = [0xDD, 0x2A, lo nn, hi nn] ∧
    exec (Form.ldIndexAbs .IX nn).toInstr s = .next
      (({ s with ix := join (s.peek (nn + 1)) (s.peek nn), wz := nn + 1 }).ended (s.pc + 4) 20)) ∧
  (∀ (nn : Word) (s : State), s.canRead nn = true → s.canRead (nn + 1) = true →
    encode (Form.ldIndexAbs .IY nn).toInstr = [0xFD, 0x2A, lo nn, hi nn] ∧
    exec (Form.ldIndexAbs .IY nn).toInstr s = .next
      (({ s with iy := join (s.peek (nn + 1)) (s.peek nn), wz := nn + 1 }).ended (s.pc + 4) 20)) ∧
  (∀ (nn : Word) (s : State), s.canWrite nn = true → s.canWrite (nn + 1) = true →
    encode (Form.ldAbsHl nn).toInstr = [0x22, lo nn, hi nn] ∧
    exec (Form.ldAbsHl nn).toInstr s = .next
      (({ (s.poke nn s.regs.l).poke (nn + 1) s.regs.h with wz := nn + 1 }).ended (s.pc + 3) 16)) ∧
  (∀ (p : Pair) (nn : Word) (s : State), s.canWrite nn = true → s.canWrite (nn + 1) = true →
    encode (Form.ldAbsPair p nn).toInstr = [0xED, xpqz 1 p.code 0 3, lo nn, hi nn] ∧
    exec (Form.ldAbsPair p nn).toInstr s = .next
      (({ (s.poke nn (lo (s.pair p))).poke (nn + 1) (hi (s.pair p)) with wz := nn + 1 }).ended (s.pc + 4) 20)) ∧
  (∀ (x : Index) (nn : Word) (s : State), s.canWrite nn = true → s.canWrite (nn + 1) = true →
    encode (Form.ldAbsIndex x nn).toInstr = [x.byte, 0x22, lo nn, hi nn] ∧
    exec (Form.ldAbsIndex x nn).toInstr s = .next
      (({ (s.poke nn (lo (s.index x))).poke (nn + 1) (hi (s.index x)) with wz := nn + 1 }).ended (s.pc + 4) 20))

/-- PUSH: the high byte to SP - 1 first, the low byte to SP - 2, SP two lower; POP: the low byte from SP, the high byte from SP + 1, SP two higher; `POP AF` takes F
as stored (R250 to R253, R76, R77). -/
def Obligations.PushAndPop : Prop :=
  (∀ (q : StackPair) (s : State), s.canWrite (s.sp - 1) = true → s.canWrite (s.sp - 2) = true →
    encode (Form.pushPair q).toInstr = [xpqz 3 q.code 0 5] ∧
    exec (Form.pushPair q).toInstr s = .next
      (({ (s.poke (s.sp - 1) (hi (s.stackPair q))).poke (s.sp - 2) (lo (s.stackPair q)) with sp := s.sp - 2 }).ended
        (s.pc + 1) 11)) ∧
  (∀ (x : Index) (s : State), s.canWrite (s.sp - 1) = true → s.canWrite (s.sp - 2) = true →
    encode (Form.pushIndex x).toInstr = [x.byte, 0xE5] ∧
    exec (Form.pushIndex x).toInstr s = .next
      (({ (s.poke (s.sp - 1) (hi (s.index x))).poke (s.sp - 2) (lo (s.index x)) with sp := s.sp - 2 }).ended
        (s.pc + 2) 15)) ∧
  (∀ (q : StackPair) (s : State), s.canRead s.sp = true → s.canRead (s.sp + 1) = true →
    encode (Form.popPair q).toInstr = [xpqz 3 q.code 0 1] ∧
    ∃ t, exec (Form.popPair q).toInstr s = .next t ∧ t.stackPair q = join (s.peek (s.sp + 1)) (s.peek s.sp)
      ∧ t.sp = s.sp + 2 ∧ (∀ q', q' ≠ q → t.stackPair q' = s.stackPair q')
      ∧ { t with regs := s.regs, sp := s.sp } = s.ended (s.pc + 1) 10) ∧
  (∀ (x : Index) (s : State), s.canRead s.sp = true → s.canRead (s.sp + 1) = true →
    encode (Form.popIndex x).toInstr = [x.byte, 0xE1] ∧
    ∃ t, exec (Form.popIndex x).toInstr s = .next t ∧ t.index x = join (s.peek (s.sp + 1)) (s.peek s.sp)
      ∧ t.sp = s.sp + 2 ∧ (∀ x', x' ≠ x → t.index x' = s.index x')
      ∧ { t with ix := s.ix, iy := s.iy, sp := s.sp } = s.ended (s.pc + 2) 14)

/-- `EX DE,HL`, `EX AF,AF'` and `EXX` exchange their pairs and nothing else, each its own inverse on the registers; `EX (SP),HL` and `EX (SP),xy` exchange the word
at SP with the register, WZ takes the word and SP is unchanged (R254 to R258). -/
def Obligations.Exchanges : Prop :=
  (∀ s : State, encode (Form.exDeHl).toInstr = [0xEB] ∧
    exec (Form.exDeHl).toInstr s = .next (({ s with regs := { s.regs with
      d := s.regs.h, e := s.regs.l, h := s.regs.d, l := s.regs.e } }).ended (s.pc + 1) 4)) ∧
  (∀ s : State, encode (Form.exAf).toInstr = [0x08] ∧
    exec (Form.exAf).toInstr s = .next (({ s with
      regs := { s.regs with a := hi s.afAlt, f := lo s.afAlt }, afAlt := s.af }).ended (s.pc + 1) 4)) ∧
  (∀ s : State, encode (Form.exx).toInstr = [0xD9] ∧
    exec (Form.exx).toInstr s = .next (({ s with
      regs := { s.regs with b := hi s.bcAlt, c := lo s.bcAlt, d := hi s.deAlt, e := lo s.deAlt, h := hi s.hlAlt, l := lo s.hlAlt }
      bcAlt := s.bc, deAlt := s.de, hlAlt := s.hl }).ended (s.pc + 1) 4)) ∧
  (∀ (g : Form) (s t u : State), g = .exDeHl ∨ g = .exAf ∨ g = .exx → exec g.toInstr s = .next t → exec g.toInstr t = .next u →
    ∀ n, u.value n = s.value n) ∧
  (∀ s : State, s.canRead s.sp = true → s.canRead (s.sp + 1) = true → s.canWrite (s.sp + 1) = true → s.canWrite s.sp = true →
    encode (Form.exSpHl).toInstr = [0xE3] ∧
    exec (Form.exSpHl).toInstr s = .next (({ (s.poke (s.sp + 1) s.regs.h).poke s.sp s.regs.l with
      regs := { s.regs with h := s.peek (s.sp + 1), l := s.peek s.sp }
      wz := join (s.peek (s.sp + 1)) (s.peek s.sp) }).ended (s.pc + 1) 19)) ∧
  (∀ s : State, s.canRead s.sp = true → s.canRead (s.sp + 1) = true → s.canWrite (s.sp + 1) = true → s.canWrite s.sp = true →
    encode (Form.exSpIndex .IX).toInstr = [0xDD, 0xE3] ∧
    exec (Form.exSpIndex .IX).toInstr s = .next (({ (s.poke (s.sp + 1) (hi s.ix)).poke s.sp (lo s.ix) with
      ix := join (s.peek (s.sp + 1)) (s.peek s.sp), wz := join (s.peek (s.sp + 1)) (s.peek s.sp) }).ended (s.pc + 2) 23)) ∧
  (∀ s : State, s.canRead s.sp = true → s.canRead (s.sp + 1) = true → s.canWrite (s.sp + 1) = true → s.canWrite s.sp = true →
    encode (Form.exSpIndex .IY).toInstr = [0xFD, 0xE3] ∧
    exec (Form.exSpIndex .IY).toInstr s = .next (({ (s.poke (s.sp + 1) (hi s.iy)).poke s.sp (lo s.iy) with
      iy := join (s.peek (s.sp + 1)) (s.peek s.sp), wz := join (s.peek (s.sp + 1)) (s.peek s.sp) }).ended (s.pc + 2) 23))

/-! ## 8-bit arithmetic and logic -/

/-- The ALU operations on every operand form: A and F as the operation's rule says, the operand a register, (HL), an immediate, a half of an index register,
or (xy+d), which sets WZ (R270 to R278). -/
def Obligations.AluOperations : Prop :=
  (∀ (op : AluOp) (r : Reg8) (s : State), encode (Form.aluReg op r).toInstr = [xyz 2 op.code r.code] ∧
    exec (Form.aluReg op r).toInstr s = .next
    ((s.withAF (aluSpec op s.regs.a (s.regs.get r) s.regs.f)).ended (s.pc + 1) 4)) ∧
  (∀ (op : AluOp) (s : State), s.canRead s.hl = true → encode (Form.aluMem op).toInstr = [xyz 2 op.code 6] ∧
    exec (Form.aluMem op).toInstr s = .next
    ((s.withAF (aluSpec op s.regs.a (s.peek s.hl) s.regs.f)).ended (s.pc + 1) 7)) ∧
  (∀ (op : AluOp) (n : Byte) (s : State), encode (Form.aluImm op n).toInstr = [xyz 3 op.code 6, n] ∧
    exec (Form.aluImm op n).toInstr s = .next
    ((s.withAF (aluSpec op s.regs.a n s.regs.f)).ended (s.pc + 2) 7)) ∧
  (∀ (op : AluOp) (x : Index) (h : Half) (s : State), encode (Form.aluHalf op x h).toInstr = [x.byte, xyz 2 op.code h.code] ∧
    exec (Form.aluHalf op x h).toInstr s = .next
    ((s.withAF (aluSpec op s.regs.a (s.half x h) s.regs.f)).ended (s.pc + 2) 8)) ∧
  (∀ (op : AluOp) (x : Index) (d : Byte) (s : State), s.canRead (s.index x + sext d) = true →
    encode (Form.aluIdx op x d).toInstr = [x.byte, xyz 2 op.code 6, d] ∧
    exec (Form.aluIdx op x d).toInstr s = .next
      (({ s.withAF (aluSpec op s.regs.a (s.peek (s.index x + sext d)) s.regs.f) with wz := s.index x + sext d }).ended
        (s.pc + 3) 19))

/-- INC and DEC of a register, a half of an index register, (HL) and (xy+d): the value one higher or lower, F from `inc8` or `dec8`, of which
`AddAndSubtractFlags` says every flag (R279 to R284). -/
def Obligations.IncrementAndDecrement : Prop :=
  (∀ (r : Reg8) (s : State), encode (Form.incReg r).toInstr = [xyz 0 r.code 4] ∧
    exec (Form.incReg r).toInstr s = .next (({ s with
    regs := { s.regs.set r (s.regs.get r + 1) with f := (inc8 (s.regs.get r) s.regs.f).2 } }).ended (s.pc + 1) 4)) ∧
  (∀ (r : Reg8) (s : State), encode (Form.decReg r).toInstr = [xyz 0 r.code 5] ∧
    exec (Form.decReg r).toInstr s = .next (({ s with
    regs := { s.regs.set r (s.regs.get r - 1) with f := (dec8 (s.regs.get r) s.regs.f).2 } }).ended (s.pc + 1) 4)) ∧
  (∀ (x : Index) (h : Half) (s : State), encode (Form.incHalf x h).toInstr = [x.byte, xyz 0 h.code 4] ∧
    exec (Form.incHalf x h).toInstr s = .next (({ s.setHalf x h (s.half x h + 1) with
    regs := { s.regs with f := (inc8 (s.half x h) s.regs.f).2 } }).ended (s.pc + 2) 8)) ∧
  (∀ (x : Index) (h : Half) (s : State), encode (Form.decHalf x h).toInstr = [x.byte, xyz 0 h.code 5] ∧
    exec (Form.decHalf x h).toInstr s = .next (({ s.setHalf x h (s.half x h - 1) with
    regs := { s.regs with f := (dec8 (s.half x h) s.regs.f).2 } }).ended (s.pc + 2) 8)) ∧
  (∀ s : State, s.canRead s.hl = true → s.canWrite s.hl = true → encode (Form.incMem).toInstr = [0x34] ∧
    exec (Form.incMem).toInstr s = .next
    (({ s.poke s.hl (s.peek s.hl + 1) with regs := { s.regs with f := (inc8 (s.peek s.hl) s.regs.f).2 } }).ended (s.pc + 1) 11)) ∧
  (∀ s : State, s.canRead s.hl = true → s.canWrite s.hl = true → encode (Form.decMem).toInstr = [0x35] ∧
    exec (Form.decMem).toInstr s = .next
    (({ s.poke s.hl (s.peek s.hl - 1) with regs := { s.regs with f := (dec8 (s.peek s.hl) s.regs.f).2 } }).ended (s.pc + 1) 11)) ∧
  (∀ (x : Index) (d : Byte) (s : State), s.canRead (s.index x + sext d) = true → s.canWrite (s.index x + sext d) = true →
    encode (Form.incIdx x d).toInstr = [x.byte, 0x34, d] ∧
    exec (Form.incIdx x d).toInstr s = .next (({ s.poke (s.index x + sext d) (s.peek (s.index x + sext d) + 1) with
      wz := s.index x + sext d, regs := { s.regs with f := (inc8 (s.peek (s.index x + sext d)) s.regs.f).2 } }).ended
        (s.pc + 3) 23)) ∧
  (∀ (x : Index) (d : Byte) (s : State), s.canRead (s.index x + sext d) = true → s.canWrite (s.index x + sext d) = true →
    encode (Form.decIdx x d).toInstr = [x.byte, 0x35, d] ∧
    exec (Form.decIdx x d).toInstr s = .next (({ s.poke (s.index x + sext d) (s.peek (s.index x + sext d) - 1) with
      wz := s.index x + sext d, regs := { s.regs with f := (dec8 (s.peek (s.index x + sext d)) s.regs.f).2 } }).ended
        (s.pc + 3) 23))

/-- DAA, CPL, NEG, CCF and SCF complete in every state with the A and F their rules give (R285 to R289). -/
def Obligations.AccumulatorAdjustments : Prop :=
  (∀ s : State, encode (Form.daa).toInstr = [0x27] ∧
    exec (Form.daa).toInstr s = .next ((s.withAF (daa8 s.regs.a s.regs.f)).ended (s.pc + 1) 4)) ∧
  (∀ s : State, encode (Form.cpl).toInstr = [0x2F] ∧
    exec (Form.cpl).toInstr s = .next ((s.withAF
    (~~~ s.regs.a, (s.regs.f &&& 0xC5) ||| (~~~ s.regs.a &&& 0x28) ||| 0x12)).ended (s.pc + 1) 4)) ∧
  (∀ s : State, encode (Form.neg).toInstr = [0xED, 0x44] ∧
    exec (Form.neg).toInstr s = .next ((s.withAF (0 - s.regs.a, (sub8 0 s.regs.a false).2)).ended (s.pc + 2) 8)) ∧
  (∀ s : State, encode (Form.ccf).toInstr = [0x3F] ∧
    exec (Form.ccf).toInstr s = .next ((s.withAF (s.regs.a,
    (s.regs.f &&& 0xC4) ||| (if s.regs.f.getLsbD 0 then 0x10 else 0x01) ||| (s.regs.a &&& 0x28))).ended (s.pc + 1) 4)) ∧
  (∀ s : State, encode (Form.scf).toInstr = [0x37] ∧
    exec (Form.scf).toInstr s = .next ((s.withAF (s.regs.a,
    (s.regs.f &&& 0xC4) ||| 0x01 ||| (s.regs.a &&& 0x28))).ended (s.pc + 1) 4))

/-- 8-bit addition and subtraction with carry: the exact result modulo 2^8, and every flag by its meaning: C the carry or borrow out of the top bit, H the one at
bit 3, PV the two's-complement overflow, N, and S, Z, Y, X from the result; and the same of INC and DEC of a byte, which keep C (R159, R161, R162, R167, R168). -/
def Obligations.AddAndSubtractFlags : Prop :=
  (∀ (a v : Byte) (c : Bool),
    (let r := (add8 a v c).1
     let f := (add8 a v c).2
     r.toNat = (a.toNat + v.toNat + c.toNat) % 256 ∧
     (flagC f = true ↔ 256 ≤ a.toNat + v.toNat + c.toNat) ∧
     (flagH f = true ↔ 16 ≤ a.toNat % 16 + v.toNat % 16 + c.toNat) ∧
     (flagPV f = true ↔ a.toInt + v.toInt + c.toNat < -128 ∨ 127 < a.toInt + v.toInt + c.toNat) ∧
     flagN f = false ∧ (flagZ f = true ↔ r = 0) ∧ flagS f = r.getLsbD 7 ∧ flagY f = r.getLsbD 5 ∧ flagX f = r.getLsbD 3) ∧
    (let r := (sub8 a v c).1
     let f := (sub8 a v c).2
     (r.toNat : Int) = ((a.toNat : Int) - v.toNat - c.toNat) % 256 ∧
     (flagC f = true ↔ a.toNat < v.toNat + c.toNat) ∧
     (flagH f = true ↔ a.toNat % 16 < v.toNat % 16 + c.toNat) ∧
     (flagPV f = true ↔ a.toInt - v.toInt - c.toNat < -128 ∨ 127 < a.toInt - v.toInt - c.toNat) ∧
     flagN f = true ∧ (flagZ f = true ↔ r = 0) ∧ flagS f = r.getLsbD 7 ∧ flagY f = r.getLsbD 5 ∧ flagX f = r.getLsbD 3)) ∧
  (∀ v old : Byte,
    (let r := (inc8 v old).1
     let f := (inc8 v old).2
     r.toNat = (v.toNat + 1) % 256 ∧ flagC f = flagC old ∧ (flagH f = true ↔ v.toNat % 16 = 15) ∧
     (flagPV f = true ↔ 127 < v.toInt + 1) ∧
     flagN f = false ∧ (flagZ f = true ↔ r = 0) ∧ flagS f = r.getLsbD 7 ∧ flagY f = r.getLsbD 5 ∧ flagX f = r.getLsbD 3) ∧
    (let r := (dec8 v old).1
     let f := (dec8 v old).2
     r.toNat = (v.toNat + 255) % 256 ∧ flagC f = flagC old ∧ (flagH f = true ↔ v.toNat % 16 = 0) ∧
     (flagPV f = true ↔ v.toInt - 1 < -128) ∧
     flagN f = true ∧ (flagZ f = true ↔ r = 0) ∧ flagS f = r.getLsbD 7 ∧ flagY f = r.getLsbD 5 ∧ flagX f = r.getLsbD 3))

/-- DAA makes decimal arithmetic of binary arithmetic: after ADC of two decimal bytes it gives their decimal sum, and after SBC their decimal difference, with the
decimal carry or borrow in C. For every A and F, decimal or not: A is adjusted by 6 where H is set or the low digit is above 9, and by 0x60 where C is set or A is above 0x99, added or
subtracted as N says; C is set where 0x60 is used, H is the carry or borrow at bit 3 of the adjustment, N is kept, PV is the parity, and S, Z, Y, X come from the result (R183). -/
def Obligations.DecimalAdjust : Prop :=
  (∀ (m n : Nat) (c : Bool), m < 100 → n < 100 →
    (let x := add8 (BitVec.ofNat 8 (16 * (m / 10) + m % 10)) (BitVec.ofNat 8 (16 * (n / 10) + n % 10)) c
     let k := (m + n + c.toNat) % 100
     (daa8 x.1 x.2).1 = BitVec.ofNat 8 (16 * (k / 10) + k % 10) ∧
     (flagC (daa8 x.1 x.2).2 = true ↔ 100 ≤ m + n + c.toNat)) ∧
    (let x := sub8 (BitVec.ofNat 8 (16 * (m / 10) + m % 10)) (BitVec.ofNat 8 (16 * (n / 10) + n % 10)) c
     let k := (m + 200 - n - c.toNat) % 100
     (daa8 x.1 x.2).1 = BitVec.ofNat 8 (16 * (k / 10) + k % 10) ∧
     (flagC (daa8 x.1 x.2).2 = true ↔ m < n + c.toNat))) ∧
  (∀ a old : Byte,
    let low : Nat := if flagH old = true ∨ 9 < a.toNat % 16 then 0x06 else 0
    let high : Nat := if flagC old = true ∨ 0x99 < a.toNat then 0x60 else 0
    let r := (daa8 a old).1
    let f := (daa8 a old).2
    (flagN old = false → r.toNat = (a.toNat + low + high) % 256 ∧ (flagH f = true ↔ 16 ≤ a.toNat % 16 + low)) ∧
    (flagN old = true → r.toNat = (a.toNat + 256 - low - high) % 256 ∧ (flagH f = true ↔ a.toNat % 16 < low)) ∧
    (flagC f = true ↔ high = 0x60) ∧ flagN f = flagN old ∧ (flagPV f = true ↔ popcount r % 2 = 0) ∧
    (flagZ f = true ↔ r = 0) ∧ flagS f = r.getLsbD 7 ∧ flagY f = r.getLsbD 5 ∧ flagX f = r.getLsbD 3)

/-! ## 16-bit arithmetic -/

/-- ADD, ADC and SBC on HL, ADD on an index register, and the 16-bit INC and DEC, which change no flag (R300 to R307). -/
def Obligations.WordArithmetic : Prop :=
  (∀ (p : Pair) (s : State), encode (Form.addHl p).toInstr = [xpqz 0 p.code 1 1] ∧
    exec (Form.addHl p).toInstr s = .next
    ((s.withHlF (add16 s.hl (s.pair p) s.regs.f)).ended (s.pc + 1) 11)) ∧
  (∀ (p : Pair) (s : State), encode (Form.adcHl p).toInstr = [0xED, xpqz 1 p.code 1 2] ∧
    exec (Form.adcHl p).toInstr s = .next
    ((s.withHlF (adc16 s.hl (s.pair p) (s.regs.f.getLsbD 0))).ended (s.pc + 2) 15)) ∧
  (∀ (p : Pair) (s : State), encode (Form.sbcHl p).toInstr = [0xED, xpqz 1 p.code 0 2] ∧
    exec (Form.sbcHl p).toInstr s = .next
    ((s.withHlF (sbc16 s.hl (s.pair p) (s.regs.f.getLsbD 0))).ended (s.pc + 2) 15)) ∧
  (∀ (p : IndexPair) (s : State), encode (Form.addIndex .IX p).toInstr = [0xDD, xpqz 0 p.code 1 1] ∧
    exec (Form.addIndex .IX p).toInstr s = .next (({ s with
    ix := (add16 s.ix (s.indexPair .IX p) s.regs.f).1, wz := s.ix + 1
    regs := { s.regs with f := (add16 s.ix (s.indexPair .IX p) s.regs.f).2 } }).ended (s.pc + 2) 15)) ∧
  (∀ (p : IndexPair) (s : State), encode (Form.addIndex .IY p).toInstr = [0xFD, xpqz 0 p.code 1 1] ∧
    exec (Form.addIndex .IY p).toInstr s = .next (({ s with
    iy := (add16 s.iy (s.indexPair .IY p) s.regs.f).1, wz := s.iy + 1
    regs := { s.regs with f := (add16 s.iy (s.indexPair .IY p) s.regs.f).2 } }).ended (s.pc + 2) 15)) ∧
  (∀ (p : Pair) (s : State), encode (Form.incPair p).toInstr = [xpqz 0 p.code 0 3] ∧
    exec (Form.incPair p).toInstr s = .next ((s.setPair p (s.pair p + 1)).ended (s.pc + 1) 6)) ∧
  (∀ (p : Pair) (s : State), encode (Form.decPair p).toInstr = [xpqz 0 p.code 1 3] ∧
    exec (Form.decPair p).toInstr s = .next ((s.setPair p (s.pair p - 1)).ended (s.pc + 1) 6)) ∧
  (∀ (x : Index) (s : State), encode (Form.incIndex x).toInstr = [x.byte, 0x23] ∧
    exec (Form.incIndex x).toInstr s = .next ((s.setIndex x (s.index x + 1)).ended (s.pc + 2) 10)) ∧
  (∀ (x : Index) (s : State), encode (Form.decIndex x).toInstr = [x.byte, 0x2B] ∧
    exec (Form.decIndex x).toInstr s = .next ((s.setIndex x (s.index x - 1)).ended (s.pc + 2) 10))

/-- The 16-bit sums and difference by their meaning: the exact result modulo 2^16, C out of bit 15, H out of bit 11, PV the two's-complement overflow of ADC and SBC,
Z of the whole word; ADD keeps S, Z and PV (R159, R169, R170, R171). -/
def Obligations.WordArithmeticFlags : Prop :=
  (∀ (x y : Word) (f : Byte),
    let r := (add16 x y f).1
    let g := (add16 x y f).2
    r = x + y ∧ (flagC g = true ↔ 65536 ≤ x.toNat + y.toNat) ∧ (flagH g = true ↔ 4096 ≤ x.toNat % 4096 + y.toNat % 4096) ∧
      flagN g = false ∧ flagS g = flagS f ∧ flagZ g = flagZ f ∧ flagPV g = flagPV f ∧
      flagX g = r.getLsbD 11 ∧ flagY g = r.getLsbD 13) ∧
  (∀ (x y : Word) (c : Bool),
    let r := (adc16 x y c).1
    let g := (adc16 x y c).2
    r.toNat = (x.toNat + y.toNat + c.toNat) % 65536 ∧ (flagC g = true ↔ 65536 ≤ x.toNat + y.toNat + c.toNat) ∧
      (flagH g = true ↔ 4096 ≤ x.toNat % 4096 + y.toNat % 4096 + c.toNat) ∧
      (flagPV g = true ↔ x.toInt + y.toInt + c.toNat < -32768 ∨ 32767 < x.toInt + y.toInt + c.toNat) ∧
      flagN g = false ∧ flagS g = r.getLsbD 15 ∧ (flagZ g = true ↔ r = 0) ∧ flagX g = r.getLsbD 11 ∧ flagY g = r.getLsbD 13) ∧
  (∀ (x y : Word) (c : Bool),
    let r := (sbc16 x y c).1
    let g := (sbc16 x y c).2
    (r.toNat : Int) = ((x.toNat : Int) - y.toNat - c.toNat) % 65536 ∧ (flagC g = true ↔ x.toNat < y.toNat + c.toNat) ∧
      (flagH g = true ↔ x.toNat % 4096 < y.toNat % 4096 + c.toNat) ∧
      (flagPV g = true ↔ x.toInt - y.toInt - c.toNat < -32768 ∨ 32767 < x.toInt - y.toInt - c.toNat) ∧
      flagN g = true ∧ flagS g = r.getLsbD 15 ∧ (flagZ g = true ↔ r = 0) ∧ flagX g = r.getLsbD 11 ∧ flagY g = r.getLsbD 13)

/-! ## Rotates, shifts and bits -/

/-- RLCA, RRCA, RLA and RRA rotate A, through the carry for the last two; S, Z and PV are kept, C takes the displaced bit (R321 to R324). -/
def Obligations.AccumulatorRotates : Prop :=
  (∀ s : State, encode (Form.accRot .rlca).toInstr = [0x07] ∧
    exec (Form.accRot .rlca).toInstr s = .next ((s.withAF (s.regs.a.rotateLeft 1,
    accRotFlagsSpec (s.regs.a.rotateLeft 1) (s.regs.a.getLsbD 7) s.regs.f)).ended (s.pc + 1) 4)) ∧
  (∀ s : State, encode (Form.accRot .rrca).toInstr = [0x0F] ∧
    exec (Form.accRot .rrca).toInstr s = .next ((s.withAF (s.regs.a.rotateRight 1,
    accRotFlagsSpec (s.regs.a.rotateRight 1) (s.regs.a.getLsbD 0) s.regs.f)).ended (s.pc + 1) 4)) ∧
  (∀ s : State, ∃ r : Byte, (∀ k < 8, r.getLsbD k = if k = 0 then s.regs.f.getLsbD 0 else s.regs.a.getLsbD (k - 1)) ∧
    encode (Form.accRot .rla).toInstr = [0x17] ∧
    exec (Form.accRot .rla).toInstr s = .next ((s.withAF (r,
      accRotFlagsSpec r (s.regs.a.getLsbD 7) s.regs.f)).ended (s.pc + 1) 4)) ∧
  (∀ s : State, ∃ r : Byte, (∀ k < 8, r.getLsbD k = if k = 7 then s.regs.f.getLsbD 0 else s.regs.a.getLsbD (k + 1)) ∧
    encode (Form.accRot .rra).toInstr = [0x1F] ∧
    exec (Form.accRot .rra).toInstr s = .next ((s.withAF (r,
      accRotFlagsSpec r (s.regs.a.getLsbD 0) s.regs.f)).ended (s.pc + 1) 4))

/-- The rotates and shifts of a register, (HL) and (xy+d), with the copy of the last to a register after the store: the result and flags of `rot8`
(R320, R325 to R332, R340). -/
def Obligations.RotatesAndShifts : Prop :=
  (∀ (k : RotOp) (r : Reg8) (s : State), encode (Form.rotReg k r).toInstr = [0xCB, xyz 0 k.code r.code] ∧
    exec (Form.rotReg k r).toInstr s = .next (({ s with
    regs := { s.regs.set r (rot8 k (s.regs.get r) (flagC s.regs.f)).1 with
      f := (rot8 k (s.regs.get r) (flagC s.regs.f)).2 } }).ended (s.pc + 2) 8)) ∧
  (∀ (k : RotOp) (s : State), s.canRead s.hl = true → s.canWrite s.hl = true → encode (Form.rotMem k).toInstr = [0xCB, xyz 0 k.code 6] ∧
    exec (Form.rotMem k).toInstr s = .next
    (({ s.poke s.hl (rot8 k (s.peek s.hl) (flagC s.regs.f)).1 with
      regs := { s.regs with f := (rot8 k (s.peek s.hl) (flagC s.regs.f)).2 } }).ended (s.pc + 2) 15)) ∧
  (∀ (k : RotOp) (x : Index) (d : Byte) (copy : Option Reg8) (s : State),
    s.canRead (s.index x + sext d) = true → s.canWrite (s.index x + sext d) = true →
    encode (Form.rotIdx k x d copy).toInstr = [x.byte, 0xCB, d, xyz 0 k.code (copyCode copy)] ∧
    exec (Form.rotIdx k x d copy).toInstr s = .next
      (({ s.poke (s.index x + sext d) (rot8 k (s.peek (s.index x + sext d)) (flagC s.regs.f)).1 with
        wz := s.index x + sext d
        regs := copiedTo copy (rot8 k (s.peek (s.index x + sext d)) (flagC s.regs.f)).1
          { s.regs with f := (rot8 k (s.peek (s.index x + sext d)) (flagC s.regs.f)).2 } }).ended (s.pc + 4) 23))

/-- What each rotate and shift does to the bits of a byte: the bit that comes in, the bit that goes out into C, and S, Z, Y, X and parity of the result with H and N
clear (R172 to R179). -/
def Obligations.RotateAndShiftBits : Prop :=
  ∀ (k : RotOp) (v : Byte) (c : Bool),
    (∀ j < 8, (rot8 k v c).1.getLsbD j =
      (if rotLeft k then (if j = 0 then rotIn k v c else v.getLsbD (j - 1))
       else (if j = 7 then rotIn k v c else v.getLsbD (j + 1)))) ∧
    flagC (rot8 k v c).2 = (if rotLeft k then v.getLsbD 7 else v.getLsbD 0) ∧
    flagH (rot8 k v c).2 = false ∧ flagN (rot8 k v c).2 = false ∧
    (flagZ (rot8 k v c).2 = true ↔ (rot8 k v c).1 = 0) ∧ flagS (rot8 k v c).2 = (rot8 k v c).1.getLsbD 7 ∧
    flagY (rot8 k v c).2 = (rot8 k v c).1.getLsbD 5 ∧ flagX (rot8 k v c).2 = (rot8 k v c).1.getLsbD 3 ∧
    (flagPV (rot8 k v c).2 = true ↔ popcount (rot8 k v c).1 % 2 = 0)

/-- BIT tests one bit: Z and PV its complement, S only for bit 7, H set, N clear, C kept, X and Y from the register, from the high byte of WZ for (HL), from the high byte
of the address for (xy+d) (R333, R334, R335, R180). -/
def Obligations.BitTest : Prop :=
  (∀ (b : BitNo) (r : Reg8) (s : State), encode (Form.bitReg b r).toInstr = [0xCB, xyz 1 b.code r.code] ∧
    exec (Form.bitReg b r).toInstr s = .next (({ s with regs := { s.regs with
    f := bitSpec b.num (s.regs.get r) (s.regs.get r) s.regs.f } }).ended (s.pc + 2) 8)) ∧
  (∀ (b : BitNo) (s : State), s.canRead s.hl = true → encode (Form.bitMem b).toInstr = [0xCB, xyz 1 b.code 6] ∧
    exec (Form.bitMem b).toInstr s = .next (({ s with regs := { s.regs with
    f := bitSpec b.num (s.peek s.hl) (hi s.wz) s.regs.f } }).ended (s.pc + 2) 12)) ∧
  (∀ (b : BitNo) (x : Index) (d : Byte) (z : BitVec 3) (s : State), s.canRead (s.index x + sext d) = true →
    encode (Form.bitIdx b x d z).toInstr = [x.byte, 0xCB, d, xyz 1 b.code z] ∧
    exec (Form.bitIdx b x d z).toInstr s = .next (({ s with wz := s.index x + sext d, regs := { s.regs with
      f := bitSpec b.num (s.peek (s.index x + sext d)) (hi (s.index x + sext d)) s.regs.f } }).ended (s.pc + 4) 20))

/-- SET and RES change one bit of a register, of (HL) or of (xy+d), the last with a copy to a register, and no flag (R336, R337, R320, R340). -/
def Obligations.SetAndReset : Prop :=
  (∀ (set : Bool) (b : BitNo) (r : Reg8) (s : State), encode (Form.chgReg set b r).toInstr = [0xCB, xyz (if set then 3 else 2) b.code r.code] ∧
    exec (Form.chgReg set b r).toInstr s = .next (({ s with
    regs := s.regs.set r (withBit (s.regs.get r) b.num set) }).ended (s.pc + 2) 8)) ∧
  (∀ (set : Bool) (b : BitNo) (s : State), s.canRead s.hl = true → s.canWrite s.hl = true →
    encode (Form.chgMem set b).toInstr = [0xCB, xyz (if set then 3 else 2) b.code 6] ∧
    exec (Form.chgMem set b).toInstr s = .next ((s.poke s.hl (withBit (s.peek s.hl) b.num set)).ended (s.pc + 2) 15)) ∧
  (∀ (set : Bool) (b : BitNo) (x : Index) (d : Byte) (copy : Option Reg8) (s : State),
    s.canRead (s.index x + sext d) = true → s.canWrite (s.index x + sext d) = true →
    encode (Form.chgIdx set b x d copy).toInstr = [x.byte, 0xCB, d, xyz (if set then 3 else 2) b.code (copyCode copy)] ∧
    exec (Form.chgIdx set b x d copy).toInstr s = .next
      (({ s.poke (s.index x + sext d) (withBit (s.peek (s.index x + sext d)) b.num set) with
        wz := s.index x + sext d
        regs := copiedTo copy (withBit (s.peek (s.index x + sext d)) b.num set) s.regs }).ended (s.pc + 4) 23))

/-- RLD and RRD rotate three digits between A and the byte at HL; WZ takes HL + 1 (R338, R339). -/
def Obligations.DigitRotates : Prop :=
  (∀ s : State, s.canRead s.hl = true → s.canWrite s.hl = true →
    encode (Form.rld).toInstr = [0xED, 0x6F] ∧
    exec (Form.rld).toInstr s = .next
      (({ (s.withAF (nibbles (hiNibble s.regs.a) (hiNibble (s.peek s.hl)),
          (s.regs.f &&& 0x01) ||| sz53p (nibbles (hiNibble s.regs.a) (hiNibble (s.peek s.hl))))).poke s.hl
            (nibbles (loNibble (s.peek s.hl)) (loNibble s.regs.a)) with wz := s.hl + 1 }).ended (s.pc + 2) 18)) ∧
  (∀ s : State, s.canRead s.hl = true → s.canWrite s.hl = true →
    encode (Form.rrd).toInstr = [0xED, 0x67] ∧
    exec (Form.rrd).toInstr s = .next
      (({ (s.withAF (nibbles (hiNibble s.regs.a) (loNibble (s.peek s.hl)),
          (s.regs.f &&& 0x01) ||| sz53p (nibbles (hiNibble s.regs.a) (loNibble (s.peek s.hl))))).poke s.hl
            (nibbles (loNibble s.regs.a) (hiNibble (s.peek s.hl))) with wz := s.hl + 1 }).ended (s.pc + 2) 18))

/-! ## Control transfer -/

/-- The jumps: PC to the target, taken or not by the condition; what each leaves in WZ; no flag changes (R360 to R366). -/
def Obligations.Jumps : Prop :=
  (∀ (nn : Word) (s : State), encode (Form.jp nn).toInstr = [0xC3, lo nn, hi nn] ∧
    exec (Form.jp nn).toInstr s = .next (({ s with wz := nn }).ended nn 10)) ∧
  (∀ (cc : Cond) (nn : Word) (s : State), encode (Form.jpCond cc nn).toInstr = [xyz 3 cc.code 2, lo nn, hi nn] ∧
    exec (Form.jpCond cc nn).toInstr s = .next
    (({ s with wz := nn }).ended (if condSpec cc s.regs.f then nn else s.pc + 3) 10)) ∧
  (∀ (e : Byte) (s : State), encode (Form.jr e).toInstr = [0x18, e] ∧
    exec (Form.jr e).toInstr s = .next
    (({ s with wz := s.pc + 2 + sext e }).ended (s.pc + 2 + sext e) 12)) ∧
  (∀ (cc : JrCond) (e : Byte) (s : State), encode (Form.jrCond cc e).toInstr = formBytes (.jrCond cc e) ∧
    exec (Form.jrCond cc e).toInstr s = .next
    (if condSpec cc.cond s.regs.f then ({ s with wz := s.pc + 2 + sext e }).ended (s.pc + 2 + sext e) 12
     else s.ended (s.pc + 2) 7)) ∧
  (∀ s : State, encode (Form.jpHl).toInstr = [0xE9] ∧
    exec (Form.jpHl).toInstr s = .next (s.ended s.hl 4)) ∧
  (∀ (x : Index) (s : State), encode (Form.jpIndex x).toInstr = [x.byte, 0xE9] ∧
    exec (Form.jpIndex x).toInstr s = .next (s.ended (s.index x) 8)) ∧
  (∀ (e : Byte) (s : State), s.regs.b ≠ 1 → encode (Form.djnz e).toInstr = [0x10, e] ∧
    exec (Form.djnz e).toInstr s = .next
    (({ s with regs := { s.regs with b := s.regs.b - 1 }, wz := s.pc + 2 + sext e }).ended (s.pc + 2 + sext e) 13)) ∧
  (∀ (e : Byte) (s : State), s.regs.b = 1 → encode (Form.djnz e).toInstr = [0x10, e] ∧
    exec (Form.djnz e).toInstr s = .next
    (({ s with regs := { s.regs with b := 0 } }).ended (s.pc + 2) 8))

/-- CALL and RST push the address of the next instruction, high byte first, and go to their target; a CALL not taken does not touch the stack; the returns go to the
word at SP; RETI copies IFF2 to IFF1, RETN changes neither (R367 to R373). -/
def Obligations.CallsAndReturns : Prop :=
  (∀ (nn : Word) (s : State), s.canWrite (s.sp - 1) = true → s.canWrite (s.sp - 2) = true →
    encode (Form.call nn).toInstr = [0xCD, lo nn, hi nn] ∧
    exec (Form.call nn).toInstr s = .next (({ (s.poke (s.sp - 1) (hi (s.pc + 3))).poke (s.sp - 2) (lo (s.pc + 3)) with
      sp := s.sp - 2, wz := nn }).ended nn 17)) ∧
  (∀ (cc : Cond) (nn : Word) (s : State), condSpec cc s.regs.f = true → s.canWrite (s.sp - 1) = true → s.canWrite (s.sp - 2) = true →
    encode (Form.callCond cc nn).toInstr = [xyz 3 cc.code 4, lo nn, hi nn] ∧
    exec (Form.callCond cc nn).toInstr s = .next (({ (s.poke (s.sp - 1) (hi (s.pc + 3))).poke (s.sp - 2) (lo (s.pc + 3)) with
      sp := s.sp - 2, wz := nn }).ended nn 17)) ∧
  (∀ (cc : Cond) (nn : Word) (s : State), condSpec cc s.regs.f = false →
    encode (Form.callCond cc nn).toInstr = [xyz 3 cc.code 4, lo nn, hi nn] ∧
    exec (Form.callCond cc nn).toInstr s = .next (({ s with wz := nn }).ended (s.pc + 3) 10)) ∧
  (∀ (t : RstTarget) (s : State), s.canWrite (s.sp - 1) = true → s.canWrite (s.sp - 2) = true →
    encode (Form.rst t).toInstr = [xyz 3 t.code 7] ∧
    exec (Form.rst t).toInstr s = .next (({ (s.poke (s.sp - 1) (hi (s.pc + 1))).poke (s.sp - 2) (lo (s.pc + 1)) with
      sp := s.sp - 2, wz := BitVec.ofNat 16 (8 * t.code.toNat) }).ended (BitVec.ofNat 16 (8 * t.code.toNat)) 11)) ∧
  (∀ s : State, s.canRead s.sp = true → s.canRead (s.sp + 1) = true → encode (Form.ret).toInstr = [0xC9] ∧
    exec (Form.ret).toInstr s = .next
    (({ s with sp := s.sp + 2, wz := s.stackTop }).ended s.stackTop 10)) ∧
  (∀ (cc : Cond) (s : State), condSpec cc s.regs.f = true → s.canRead s.sp = true → s.canRead (s.sp + 1) = true →
    encode (Form.retCond cc).toInstr = [xyz 3 cc.code 0] ∧
    exec (Form.retCond cc).toInstr s = .next (({ s with sp := s.sp + 2, wz := s.stackTop }).ended s.stackTop 11)) ∧
  (∀ (cc : Cond) (s : State), condSpec cc s.regs.f = false →
    encode (Form.retCond cc).toInstr = [xyz 3 cc.code 0] ∧
    exec (Form.retCond cc).toInstr s = .next (s.ended (s.pc + 1) 5)) ∧
  (∀ s : State, s.canRead s.sp = true → s.canRead (s.sp + 1) = true → encode (Form.reti).toInstr = [0xED, 0x4D] ∧
    exec (Form.reti).toInstr s = .next
    (({ s with sp := s.sp + 2, wz := s.stackTop, iff1 := s.iff2 }).ended s.stackTop 14)) ∧
  (∀ s : State, s.canRead s.sp = true → s.canRead (s.sp + 1) = true → encode (Form.retn).toInstr = [0xED, 0x45] ∧
    exec (Form.retn).toInstr s = .next
    (({ s with sp := s.sp + 2, wz := s.stackTop }).ended s.stackTop 14))

/-! ## Block instructions -/

/-- One iteration of LDI, LDD, LDIR, LDDR: a byte from HL to DE, the pointers stepped, BC one lower, the flags of `blockmoveFlags`; and of CPI, CPD, CPIR, CPDR: the
byte at HL compared with A, HL and WZ stepped, BC one lower. A repeating form goes on while BC is not zero, a compare also while the byte differs from A: it stays
at its own address with WZ at the next byte and costs 21 (R390 to R398). The flags by their meaning: a move keeps S, Z and C, clears H and N, sets PV iff BC is not zero after it, and
takes X and Y from bits 3 and 1 of A + v (R184); a compare keeps C, sets N, takes S, Z and H from A - v, PV as a move, and X and Y from bits 3 and 1 of A - v - H (R185). -/
def Obligations.BlockMoveAndCompare : Prop :=
  (∀ (down rep : Bool) (s : State), s.canRead s.hl = true → s.canWrite s.de = true →
    encode (Form.block (moveOp down rep)).toInstr = formBytes (.block (moveOp down rep)) ∧
    exec (Form.block (moveOp down rep)).toInstr s = .next
      (blockEnded (rep && s.bc - 1 != 0) true { s.poke s.de (s.peek s.hl) with
        regs := { s.regs with
          b := hi (s.bc - 1), c := lo (s.bc - 1)
          d := hi (stepBy down s.de), e := lo (stepBy down s.de), h := hi (stepBy down s.hl), l := lo (stepBy down s.hl)
          f := blockmoveFlags s.regs.a (s.peek s.hl) (s.bc - 1) s.regs.f } })) ∧
  (∀ (down rep : Bool) (s : State), s.canRead s.hl = true →
    encode (Form.block (compareOp down rep)).toInstr = formBytes (.block (compareOp down rep)) ∧
    exec (Form.block (compareOp down rep)).toInstr s = .next
      (blockEnded (rep && s.bc - 1 != 0 && s.regs.a != s.peek s.hl) true { s with
        wz := stepBy down s.wz
        regs := { s.regs with
          b := hi (s.bc - 1), c := lo (s.bc - 1), h := hi (stepBy down s.hl), l := lo (stepBy down s.hl)
          f := blockcmpFlags s.regs.a (s.peek s.hl) (s.bc - 1) s.regs.f } })) ∧
  (∀ (a v : Byte) (bc : Word) (old : Byte),
    let f := blockmoveFlags a v bc old
    flagS f = flagS old ∧ flagZ f = flagZ old ∧ flagC f = flagC old ∧ flagH f = false ∧ flagN f = false ∧
      (flagPV f = true ↔ bc ≠ 0) ∧ flagX f = (a + v).getLsbD 3 ∧ flagY f = (a + v).getLsbD 1) ∧
  (∀ (a v : Byte) (bc : Word) (old : Byte),
    let f := blockcmpFlags a v bc old
    let n := a - v - (if a.toNat % 16 < v.toNat % 16 then 1 else 0)
    flagS f = (a - v).getLsbD 7 ∧ (flagZ f = true ↔ a = v) ∧ flagC f = flagC old ∧
      (flagH f = true ↔ a.toNat % 16 < v.toNat % 16) ∧ flagN f = true ∧
      (flagPV f = true ↔ bc ≠ 0) ∧ flagX f = n.getLsbD 3 ∧ flagY f = n.getLsbD 1)

/-- One iteration of the block inputs and outputs: the port is C, B one lower, HL stepped; WZ from BC before the input and from BC with the decremented B for an output;
a repeating form goes on while B is not zero and leaves WZ (R390, R399 to R406). The flags by their meaning: S, Z, Y and X from B, N bit 7 of the byte, H and C set iff the sum
passes 255, PV the parity of the sum's low three bits and B (R186). -/
def Obligations.BlockInputOutput : Prop :=
  (∀ (down rep : Bool) (s : State), s.canWrite s.hl = true →
    encode (Form.block (inOp down rep)).toInstr = formBytes (.block (inOp down rep)) ∧
    exec (Form.block (inOp down rep)).toInstr s = .next
      (blockEnded (rep && s.regs.b - 1 != 0) false { (s.ioRead s.regs.c).2.poke s.hl (s.ioRead s.regs.c).1 with
        wz := stepBy down s.bc
        regs := { s.regs with
          b := s.regs.b - 1, h := hi (stepBy down s.hl), l := lo (stepBy down s.hl)
          f := blockioFlags (s.ioRead s.regs.c).1
            ((s.ioRead s.regs.c).1.toNat + (if down then s.regs.c - 1 else s.regs.c + 1).toNat) (s.regs.b - 1) } })) ∧
  (∀ (down rep : Bool) (s : State), s.canRead s.hl = true →
    encode (Form.block (outOp down rep)).toInstr = formBytes (.block (outOp down rep)) ∧
    exec (Form.block (outOp down rep)).toInstr s = .next
      (blockEnded (rep && s.regs.b - 1 != 0) false { s.ioWrite s.regs.c (s.peek s.hl) with
        wz := stepBy down (join (s.regs.b - 1) s.regs.c)
        regs := { s.regs with
          b := s.regs.b - 1, h := hi (stepBy down s.hl), l := lo (stepBy down s.hl)
          f := blockioFlags (s.peek s.hl) ((s.peek s.hl).toNat + (lo (stepBy down s.hl)).toNat) (s.regs.b - 1) } })) ∧
  (∀ (v : Byte) (k : Nat) (b : Byte),
    let f := blockioFlags v k b
    flagS f = b.getLsbD 7 ∧ (flagZ f = true ↔ b = 0) ∧ flagY f = b.getLsbD 5 ∧ flagX f = b.getLsbD 3 ∧
      flagN f = v.getLsbD 7 ∧ (flagH f = true ↔ 255 < k) ∧ (flagC f = true ↔ 255 < k) ∧
      (flagPV f = true ↔ popcount (BitVec.ofNat 8 (k % 8) ^^^ b) % 2 = 0))

/-- LDIR copies a block of n = BC bytes, 65,536 where BC is 0 on entry. Where no iteration stores to a byte that a later one copies (regions that do not overlap, or a destination below the source),
nothing but its own code is stored over LDIR's two bytes, and the pages permit the accesses, n steps leave the destination equal to the source as it was, every other byte as it was, BC = 0,
HL and DE n higher, PV clear, PC at the next instruction and 21(n - 1) + 16 cycles more (R390, R392). -/
def Obligations.LdirCopiesTheBlock : Prop :=
  ∀ (s : State) (n : Nat), Memory.wf s.mem = true → n = (if s.bc = 0 then 65536 else s.bc.toNat) →
    s.holdsCode s.pc [0xED, 0xB0] →
    (∀ k, k < n → s.canRead (s.hl + BitVec.ofNat 16 k) = true ∧ s.canWrite (s.de + BitVec.ofNat 16 k) = true) →
    (∀ j k, j < k → k < n → s.de + BitVec.ofNat 16 j ≠ s.hl + BitVec.ofNat 16 k) →
    (∀ k, k < n → (s.de + BitVec.ofNat 16 k = s.pc → s.peek (s.hl + BitVec.ofNat 16 k) = 0xED) ∧
      (s.de + BitVec.ofNat 16 k = s.pc + 1 → s.peek (s.hl + BitVec.ofNat 16 k) = 0xB0)) →
    ∃ t, Sys2Proof.core.run n s = .next t
      ∧ (∀ k, k < n → t.peek (s.de + BitVec.ofNat 16 k) = s.peek (s.hl + BitVec.ofNat 16 k))
      ∧ (∀ a : Word, (∀ k, k < n → a ≠ s.de + BitVec.ofNat 16 k) → t.peek a = s.peek a)
      ∧ t.bc = 0 ∧ t.hl = s.hl + BitVec.ofNat 16 n ∧ t.de = s.de + BitVec.ofNat 16 n ∧ flagPV t.regs.f = false
      ∧ t.pc = s.pc + 2 ∧ t.cycles = s.cycles + BitVec.ofNat 64 (21 * (n - 1) + 16)

/-! ## Ports and CPU control -/

/-- IN and OUT complete in every state: the port is n or C, what they leave in WZ, the flags of `IN r,(C)` and no other (R420 to R423, R80). -/
def Obligations.PortInputOutput : Prop :=
  (∀ (n : Byte) (s : State), encode (Form.inAcc n).toInstr = [0xDB, n] ∧
    exec (Form.inAcc n).toInstr s = .next (({ (s.ioRead n).2 with
    regs := { s.regs with a := (s.ioRead n).1 }, wz := join s.regs.a n + 1 }).ended (s.pc + 2) 11)) ∧
  (∀ (r : Reg8) (s : State), encode (Form.inReg r).toInstr = [0xED, xyz 1 r.code 0] ∧
    exec (Form.inReg r).toInstr s = .next (({ (s.ioRead s.regs.c).2 with
    regs := { s.regs.set r (s.ioRead s.regs.c).1 with f := (s.regs.f &&& 0x01) ||| sz53p (s.ioRead s.regs.c).1 }
    wz := s.bc + 1 }).ended (s.pc + 2) 12)) ∧
  (∀ (n : Byte) (s : State), encode (Form.outAcc n).toInstr = [0xD3, n] ∧
    exec (Form.outAcc n).toInstr s = .next (({ s.ioWrite n s.regs.a with
    wz := join s.regs.a (n + 1) }).ended (s.pc + 2) 11)) ∧
  (∀ (r : Reg8) (s : State), encode (Form.outReg r).toInstr = [0xED, xyz 1 r.code 1] ∧
    exec (Form.outReg r).toInstr s = .next (({ s.ioWrite s.regs.c (s.regs.get r) with
    wz := s.bc + 1 }).ended (s.pc + 2) 12))

/-- What the devices answer: a latch returns the last byte written to it; a console's data port gives the buffered byte, emptying the buffer, or 0xFF; its status port shows bit 0 set and bit 1 set
iff a byte is buffered, and keeps the buffer. Where the buffer is empty a byte may have arrived: one draw says whether, another which. The first write of the status port is the mode byte, a later
one a command byte; a byte written to the data port is emitted when TXEN is set and changes nothing else. Every access changes no register and no memory (R81, R82, R462, R464, R465). The model's
choices: the form of the draws (log entry 2), what a command byte does to TXEN and RXEN (a free value, log entry 3), that all this holds of a device that is shut down, with RXEN clear and
whatever the mode byte (log entry 5), and the trace of the accesses (log entry 16). -/
def Obligations.DeviceAnswers : Prop :=
  ∀ (s : State) (port v : Byte) (sl : IoSlot),
    (slotOf s.slots port = some sl → ∀ w down, s.devices[sl.device]? = some ⟨.latch w, down⟩ →
      ((s.ioWrite port v).ioRead port).1 = v) ∧
    (slotOf s.slots port = some sl → ∀ c down, s.devices[sl.device]? = some ⟨.console c, down⟩ →
      let arrived : Option Byte := match c.buffer with
        | some b => some b
        | none => if (s.draw port).1.getLsbD 1 then some ((s.draw port).2.draw port).1 else none
      (port.toNat - sl.base = 0 →
        (s.ioRead port).1 = arrived.getD 0xFF ∧
        (s.ioRead port).2.devices[sl.device]? = some ⟨.console { c with buffer := none }, down⟩ ∧
        (s.ioWrite port v).devices[sl.device]? =
          some ⟨.console { c with emitted := if c.txen then c.emitted ++ [v] else c.emitted }, down⟩) ∧
      (port.toNat - sl.base = 1 →
        (s.ioRead port).1.getLsbD 0 = true ∧ (s.ioRead port).1.getLsbD 1 = arrived.isSome ∧
        (s.ioRead port).2.devices[sl.device]? = some ⟨.console { c with buffer := arrived }, down⟩ ∧
        (c.modeByte = none →
          (s.ioWrite port v).devices[sl.device]? = some ⟨.console { c with modeByte := some v }, down⟩) ∧
        (c.modeByte ≠ none →
          (s.ioWrite port v).devices[sl.device]? = some ⟨.console { c with
            txen := (Config.consoleCommand v (c.txen, c.rxen)).1
            rxen := (Config.consoleCommand v (c.txen, c.rxen)).2 }, down⟩))) ∧
    (slotOf s.slots port = none → s.ioWrite port v = { s with ioTrace := s.ioTrace ++ [.output port v] }) ∧
    (s.ioRead port).2.ioTrace = s.ioTrace ++ [.input port (s.ioRead port).1] ∧
    (s.ioWrite port v).ioTrace = s.ioTrace ++ [.output port v] ∧
    { (s.ioRead port).2 with devices := s.devices, ioIn := s.ioIn, ioDraws := s.ioDraws, ioTrace := s.ioTrace } = s ∧
    { s.ioWrite port v with devices := s.devices, ioTrace := s.ioTrace } = s

/-- NOP, HALT, DI, EI and IM: HALT adds its cycles, leaves PC and reports `Halt(pc0)`, and changes nothing else (R424 to R430, R453). -/
def Obligations.CpuControl : Prop :=
  (∀ s : State, encode (Form.nop).toInstr = [0x00] ∧
    exec (Form.nop).toInstr s = .next (s.ended (s.pc + 1) 4)) ∧
  (∀ s : State, encode (Form.halt).toInstr = [0x76] ∧
    exec (Form.halt).toInstr s = .next { s with cycles := s.cycles + 4, result := .halt s.pc }) ∧
  (∀ s : State, encode (Form.di).toInstr = [0xF3] ∧
    exec (Form.di).toInstr s = .next (({ s with iff1 := false, iff2 := false }).ended (s.pc + 1) 4)) ∧
  (∀ s : State, encode (Form.ei).toInstr = [0xFB] ∧
    exec (Form.ei).toInstr s = .next (({ s with iff1 := true, iff2 := true }).ended (s.pc + 1) 4)) ∧
  (∀ s : State, encode (Form.im .im0).toInstr = [0xED, 0x46] ∧
    exec (Form.im .im0).toInstr s = .next (({ s with im := 0 }).ended (s.pc + 2) 8)) ∧
  (∀ s : State, encode (Form.im .im1).toInstr = [0xED, 0x56] ∧
    exec (Form.im .im1).toInstr s = .next (({ s with im := 1 }).ended (s.pc + 2) 8)) ∧
  (∀ s : State, encode (Form.im .im2).toInstr = [0xED, 0x5E] ∧
    exec (Form.im .im2).toInstr s = .next (({ s with im := 2 }).ended (s.pc + 2) 8))
end

