-- ==== Sys2Proof/Laws/Memory.lean ====
section
/-! SUPPORT. The laws of the memory list: a read after a write, and that every operation keeps the canonical form. -/

namespace Sys2Proof.Memory

/-- A lower bound may be lowered. -/
theorem wfFrom_mono {m : List Host.Cell} {j k : Nat} (h : wfFrom k m = true) (hjk : j ≤ k) : wfFrom j m = true := by
  cases m with
  | nil => rfl
  | cons c rest =>
    obtain ⟨a, v⟩ := c
    simp only [wfFrom, Bool.and_eq_true, decide_eq_true_eq] at h ⊢
    exact ⟨⟨⟨by omega, h.1.1.2⟩, h.1.2⟩, h.2⟩

/-- An address below the bound is unlisted. -/
theorem read_below {m : List Host.Cell} {k a : Nat} (h : wfFrom k m = true) (ha : a < k) : read m a = Config.memUnlisted := by
  induction m generalizing k with
  | nil => rfl
  | cons c rest ih =>
    obtain ⟨b, v⟩ := c
    simp only [wfFrom, Bool.and_eq_true, decide_eq_true_eq] at h
    have hb : b ≠ a := by omega
    simp only [read, hb, if_false]
    exact ih h.2 (by omega)

/-- A byte written is read back. -/
theorem read_write_same {m : List Host.Cell} {k : Nat} (h : wfFrom k m = true) (a : Nat) (v : Byte) :
    read (write m a v) a = v := by
  induction m generalizing k with
  | nil => by_cases hv : v = Config.memUnlisted <;> simp [write, read, hv]
  | cons c rest ih =>
    obtain ⟨b, w⟩ := c
    simp only [wfFrom, Bool.and_eq_true, decide_eq_true_eq] at h
    simp only [write]
    split
    · split
      · next hlt hv =>
        have hb : b ≠ a := by omega
        simp only [read, hb, if_false, hv]
        exact read_below h.2 (by omega)
      · simp [read]
    · split
      · split
        · next hab hv => subst hab; rw [hv]; exact read_below h.2 (by omega)
        · simp [read]
      · next hlt hne =>
        have hb : b ≠ a := fun e => hne e.symm
        simp only [read, hb, if_false]
        exact ih h.2

/-- A write leaves every other address, whatever the list. -/
theorem read_write_other (m : List Host.Cell) {a b : Nat} (v : Byte) (hab : b ≠ a) : read (write m a v) b = read m b := by
  have hba : a ≠ b := fun e => hab e.symm
  induction m with
  | nil => by_cases hv : v = Config.memUnlisted <;> simp [write, read, hv, hba]
  | cons c rest ih =>
    obtain ⟨k, w⟩ := c
    simp only [write]
    split
    · split
      · rfl
      · simp [read, hba]
    · split
      · next _ hak =>
        subst hak
        split <;> simp [read, hba]
      · simp only [read, ih]

/-- A write keeps the canonical form. -/
theorem wfFrom_write {m : List Host.Cell} {k a : Nat} (v : Byte) (h : wfFrom k m = true) (hk : k ≤ a) (ha : a < addressCount) :
    wfFrom k (write m a v) = true := by
  induction m generalizing k with
  | nil =>
    by_cases hv : v = Config.memUnlisted
    · simp [write, hv, wfFrom]
    · simp [write, hv, wfFrom, hk, ha]
  | cons c rest ih =>
    obtain ⟨b, w⟩ := c
    have h0 := h
    simp only [wfFrom, Bool.and_eq_true, decide_eq_true_eq, bne_iff_ne, ne_eq] at h
    simp only [write]
    split
    · split
      · exact h0
      · next hlt hv =>
        simp only [wfFrom, Bool.and_eq_true, decide_eq_true_eq, bne_iff_ne, ne_eq]
        exact ⟨⟨⟨hk, ha⟩, hv⟩, ⟨⟨by omega, h.1.1.2⟩, h.1.2⟩, h.2⟩
    · split
      · next hlt hab =>
        subst hab
        split
        · exact wfFrom_mono h.2 (by omega)
        · next hv =>
          simp only [wfFrom, Bool.and_eq_true, decide_eq_true_eq, bne_iff_ne, ne_eq]
          exact ⟨⟨⟨hk, ha⟩, hv⟩, h.2⟩
      · next hlt hne =>
        simp only [wfFrom, Bool.and_eq_true, decide_eq_true_eq, bne_iff_ne, ne_eq]
        exact ⟨⟨⟨h.1.1.1, h.1.1.2⟩, h.1.2⟩, ih h.2 (by omega)⟩

theorem wf_write {m : List Host.Cell} {a : Nat} (v : Byte) (h : wf m = true) (ha : a < addressCount) : wf (write m a v) = true :=
  wfFrom_write v h (by omega) ha

/-- Loading bytes keeps the canonical form. -/
theorem wf_writeMany {m : List Host.Cell} {a : Nat} (bytes : List Byte) (h : wf m = true)
    (ha : a + bytes.length ≤ addressCount) : wf (writeMany m a bytes) = true := by
  induction bytes generalizing m a with
  | nil => exact h
  | cons v rest ih =>
    simp only [List.length_cons] at ha
    exact ih (wf_write v h (by omega)) (by omega)

/-- Loading bytes leaves every address outside them. -/
theorem read_writeMany_other (m : List Host.Cell) {a b : Nat} (bytes : List Byte) (hb : b < a ∨ a + bytes.length ≤ b) :
    read (writeMany m a bytes) b = read m b := by
  induction bytes generalizing m a with
  | nil => rfl
  | cons v rest ih =>
    simp only [List.length_cons] at hb
    rw [writeMany, ih _ (by omega), read_write_other _ _ (by omega)]

end Sys2Proof.Memory
end

