-- ==== Sys2Proof/Laws/State.lean ====
section
/-! SUPPORT. One lemma per field per update of the state. -/

namespace Sys2Proof.Machine

@[simp] theorem State.setReg_regs (s : State) (q : Reg8) (v : Byte) : (s.setReg q v).regs = s.regs.set q v := rfl
@[simp] theorem State.setReg_afAlt (s : State) (q : Reg8) (v : Byte) : (s.setReg q v).afAlt = s.afAlt := rfl
@[simp] theorem State.setReg_bcAlt (s : State) (q : Reg8) (v : Byte) : (s.setReg q v).bcAlt = s.bcAlt := rfl
@[simp] theorem State.setReg_deAlt (s : State) (q : Reg8) (v : Byte) : (s.setReg q v).deAlt = s.deAlt := rfl
@[simp] theorem State.setReg_hlAlt (s : State) (q : Reg8) (v : Byte) : (s.setReg q v).hlAlt = s.hlAlt := rfl
@[simp] theorem State.setReg_ix (s : State) (q : Reg8) (v : Byte) : (s.setReg q v).ix = s.ix := rfl
@[simp] theorem State.setReg_iy (s : State) (q : Reg8) (v : Byte) : (s.setReg q v).iy = s.iy := rfl
@[simp] theorem State.setReg_sp (s : State) (q : Reg8) (v : Byte) : (s.setReg q v).sp = s.sp := rfl
@[simp] theorem State.setReg_pc (s : State) (q : Reg8) (v : Byte) : (s.setReg q v).pc = s.pc := rfl
@[simp] theorem State.setReg_wz (s : State) (q : Reg8) (v : Byte) : (s.setReg q v).wz = s.wz := rfl
@[simp] theorem State.setReg_i (s : State) (q : Reg8) (v : Byte) : (s.setReg q v).i = s.i := rfl
@[simp] theorem State.setReg_r (s : State) (q : Reg8) (v : Byte) : (s.setReg q v).r = s.r := rfl
@[simp] theorem State.setReg_im (s : State) (q : Reg8) (v : Byte) : (s.setReg q v).im = s.im := rfl
@[simp] theorem State.setReg_iff1 (s : State) (q : Reg8) (v : Byte) : (s.setReg q v).iff1 = s.iff1 := rfl
@[simp] theorem State.setReg_iff2 (s : State) (q : Reg8) (v : Byte) : (s.setReg q v).iff2 = s.iff2 := rfl
@[simp] theorem State.setReg_cycles (s : State) (q : Reg8) (v : Byte) : (s.setReg q v).cycles = s.cycles := rfl
@[simp] theorem State.setReg_mode (s : State) (q : Reg8) (v : Byte) : (s.setReg q v).mode = s.mode := rfl
@[simp] theorem State.setReg_debugFlag (s : State) (q : Reg8) (v : Byte) : (s.setReg q v).debugFlag = s.debugFlag := rfl
@[simp] theorem State.setReg_breakpoints (s : State) (q : Reg8) (v : Byte) : (s.setReg q v).breakpoints = s.breakpoints := rfl
@[simp] theorem State.setReg_mem (s : State) (q : Reg8) (v : Byte) : (s.setReg q v).mem = s.mem := rfl
@[simp] theorem State.setReg_pages (s : State) (q : Reg8) (v : Byte) : (s.setReg q v).pages = s.pages := rfl
@[simp] theorem State.setReg_slots (s : State) (q : Reg8) (v : Byte) : (s.setReg q v).slots = s.slots := rfl
@[simp] theorem State.setReg_devices (s : State) (q : Reg8) (v : Byte) : (s.setReg q v).devices = s.devices := rfl
@[simp] theorem State.setReg_ioIn (s : State) (q : Reg8) (v : Byte) : (s.setReg q v).ioIn = s.ioIn := rfl
@[simp] theorem State.setReg_ioDraws (s : State) (q : Reg8) (v : Byte) : (s.setReg q v).ioDraws = s.ioDraws := rfl
@[simp] theorem State.setReg_ioTrace (s : State) (q : Reg8) (v : Byte) : (s.setReg q v).ioTrace = s.ioTrace := rfl
@[simp] theorem State.setReg_shutdownReasons (s : State) (q : Reg8) (v : Byte) : (s.setReg q v).shutdownReasons = s.shutdownReasons := rfl
@[simp] theorem State.setReg_result (s : State) (q : Reg8) (v : Byte) : (s.setReg q v).result = s.result := rfl

@[simp] theorem State.setA_regs (s : State) (v : Byte) : (s.setA v).regs = { s.regs with a := v } := rfl
@[simp] theorem State.setA_afAlt (s : State) (v : Byte) : (s.setA v).afAlt = s.afAlt := rfl
@[simp] theorem State.setA_bcAlt (s : State) (v : Byte) : (s.setA v).bcAlt = s.bcAlt := rfl
@[simp] theorem State.setA_deAlt (s : State) (v : Byte) : (s.setA v).deAlt = s.deAlt := rfl
@[simp] theorem State.setA_hlAlt (s : State) (v : Byte) : (s.setA v).hlAlt = s.hlAlt := rfl
@[simp] theorem State.setA_ix (s : State) (v : Byte) : (s.setA v).ix = s.ix := rfl
@[simp] theorem State.setA_iy (s : State) (v : Byte) : (s.setA v).iy = s.iy := rfl
@[simp] theorem State.setA_sp (s : State) (v : Byte) : (s.setA v).sp = s.sp := rfl
@[simp] theorem State.setA_pc (s : State) (v : Byte) : (s.setA v).pc = s.pc := rfl
@[simp] theorem State.setA_wz (s : State) (v : Byte) : (s.setA v).wz = s.wz := rfl
@[simp] theorem State.setA_i (s : State) (v : Byte) : (s.setA v).i = s.i := rfl
@[simp] theorem State.setA_r (s : State) (v : Byte) : (s.setA v).r = s.r := rfl
@[simp] theorem State.setA_im (s : State) (v : Byte) : (s.setA v).im = s.im := rfl
@[simp] theorem State.setA_iff1 (s : State) (v : Byte) : (s.setA v).iff1 = s.iff1 := rfl
@[simp] theorem State.setA_iff2 (s : State) (v : Byte) : (s.setA v).iff2 = s.iff2 := rfl
@[simp] theorem State.setA_cycles (s : State) (v : Byte) : (s.setA v).cycles = s.cycles := rfl
@[simp] theorem State.setA_mode (s : State) (v : Byte) : (s.setA v).mode = s.mode := rfl
@[simp] theorem State.setA_debugFlag (s : State) (v : Byte) : (s.setA v).debugFlag = s.debugFlag := rfl
@[simp] theorem State.setA_breakpoints (s : State) (v : Byte) : (s.setA v).breakpoints = s.breakpoints := rfl
@[simp] theorem State.setA_mem (s : State) (v : Byte) : (s.setA v).mem = s.mem := rfl
@[simp] theorem State.setA_pages (s : State) (v : Byte) : (s.setA v).pages = s.pages := rfl
@[simp] theorem State.setA_slots (s : State) (v : Byte) : (s.setA v).slots = s.slots := rfl
@[simp] theorem State.setA_devices (s : State) (v : Byte) : (s.setA v).devices = s.devices := rfl
@[simp] theorem State.setA_ioIn (s : State) (v : Byte) : (s.setA v).ioIn = s.ioIn := rfl
@[simp] theorem State.setA_ioDraws (s : State) (v : Byte) : (s.setA v).ioDraws = s.ioDraws := rfl
@[simp] theorem State.setA_ioTrace (s : State) (v : Byte) : (s.setA v).ioTrace = s.ioTrace := rfl
@[simp] theorem State.setA_shutdownReasons (s : State) (v : Byte) : (s.setA v).shutdownReasons = s.shutdownReasons := rfl
@[simp] theorem State.setA_result (s : State) (v : Byte) : (s.setA v).result = s.result := rfl

@[simp] theorem State.setF_regs (s : State) (v : Byte) : (s.setF v).regs = { s.regs with f := v } := rfl
@[simp] theorem State.setF_afAlt (s : State) (v : Byte) : (s.setF v).afAlt = s.afAlt := rfl
@[simp] theorem State.setF_bcAlt (s : State) (v : Byte) : (s.setF v).bcAlt = s.bcAlt := rfl
@[simp] theorem State.setF_deAlt (s : State) (v : Byte) : (s.setF v).deAlt = s.deAlt := rfl
@[simp] theorem State.setF_hlAlt (s : State) (v : Byte) : (s.setF v).hlAlt = s.hlAlt := rfl
@[simp] theorem State.setF_ix (s : State) (v : Byte) : (s.setF v).ix = s.ix := rfl
@[simp] theorem State.setF_iy (s : State) (v : Byte) : (s.setF v).iy = s.iy := rfl
@[simp] theorem State.setF_sp (s : State) (v : Byte) : (s.setF v).sp = s.sp := rfl
@[simp] theorem State.setF_pc (s : State) (v : Byte) : (s.setF v).pc = s.pc := rfl
@[simp] theorem State.setF_wz (s : State) (v : Byte) : (s.setF v).wz = s.wz := rfl
@[simp] theorem State.setF_i (s : State) (v : Byte) : (s.setF v).i = s.i := rfl
@[simp] theorem State.setF_r (s : State) (v : Byte) : (s.setF v).r = s.r := rfl
@[simp] theorem State.setF_im (s : State) (v : Byte) : (s.setF v).im = s.im := rfl
@[simp] theorem State.setF_iff1 (s : State) (v : Byte) : (s.setF v).iff1 = s.iff1 := rfl
@[simp] theorem State.setF_iff2 (s : State) (v : Byte) : (s.setF v).iff2 = s.iff2 := rfl
@[simp] theorem State.setF_cycles (s : State) (v : Byte) : (s.setF v).cycles = s.cycles := rfl
@[simp] theorem State.setF_mode (s : State) (v : Byte) : (s.setF v).mode = s.mode := rfl
@[simp] theorem State.setF_debugFlag (s : State) (v : Byte) : (s.setF v).debugFlag = s.debugFlag := rfl
@[simp] theorem State.setF_breakpoints (s : State) (v : Byte) : (s.setF v).breakpoints = s.breakpoints := rfl
@[simp] theorem State.setF_mem (s : State) (v : Byte) : (s.setF v).mem = s.mem := rfl
@[simp] theorem State.setF_pages (s : State) (v : Byte) : (s.setF v).pages = s.pages := rfl
@[simp] theorem State.setF_slots (s : State) (v : Byte) : (s.setF v).slots = s.slots := rfl
@[simp] theorem State.setF_devices (s : State) (v : Byte) : (s.setF v).devices = s.devices := rfl
@[simp] theorem State.setF_ioIn (s : State) (v : Byte) : (s.setF v).ioIn = s.ioIn := rfl
@[simp] theorem State.setF_ioDraws (s : State) (v : Byte) : (s.setF v).ioDraws = s.ioDraws := rfl
@[simp] theorem State.setF_ioTrace (s : State) (v : Byte) : (s.setF v).ioTrace = s.ioTrace := rfl
@[simp] theorem State.setF_shutdownReasons (s : State) (v : Byte) : (s.setF v).shutdownReasons = s.shutdownReasons := rfl
@[simp] theorem State.setF_result (s : State) (v : Byte) : (s.setF v).result = s.result := rfl

@[simp] theorem State.setAF8_regs (s : State) (a f : Byte) : (s.setAF8 a f).regs = { s.regs with a := a, f := f } := rfl
@[simp] theorem State.setAF8_afAlt (s : State) (a f : Byte) : (s.setAF8 a f).afAlt = s.afAlt := rfl
@[simp] theorem State.setAF8_bcAlt (s : State) (a f : Byte) : (s.setAF8 a f).bcAlt = s.bcAlt := rfl
@[simp] theorem State.setAF8_deAlt (s : State) (a f : Byte) : (s.setAF8 a f).deAlt = s.deAlt := rfl
@[simp] theorem State.setAF8_hlAlt (s : State) (a f : Byte) : (s.setAF8 a f).hlAlt = s.hlAlt := rfl
@[simp] theorem State.setAF8_ix (s : State) (a f : Byte) : (s.setAF8 a f).ix = s.ix := rfl
@[simp] theorem State.setAF8_iy (s : State) (a f : Byte) : (s.setAF8 a f).iy = s.iy := rfl
@[simp] theorem State.setAF8_sp (s : State) (a f : Byte) : (s.setAF8 a f).sp = s.sp := rfl
@[simp] theorem State.setAF8_pc (s : State) (a f : Byte) : (s.setAF8 a f).pc = s.pc := rfl
@[simp] theorem State.setAF8_wz (s : State) (a f : Byte) : (s.setAF8 a f).wz = s.wz := rfl
@[simp] theorem State.setAF8_i (s : State) (a f : Byte) : (s.setAF8 a f).i = s.i := rfl
@[simp] theorem State.setAF8_r (s : State) (a f : Byte) : (s.setAF8 a f).r = s.r := rfl
@[simp] theorem State.setAF8_im (s : State) (a f : Byte) : (s.setAF8 a f).im = s.im := rfl
@[simp] theorem State.setAF8_iff1 (s : State) (a f : Byte) : (s.setAF8 a f).iff1 = s.iff1 := rfl
@[simp] theorem State.setAF8_iff2 (s : State) (a f : Byte) : (s.setAF8 a f).iff2 = s.iff2 := rfl
@[simp] theorem State.setAF8_cycles (s : State) (a f : Byte) : (s.setAF8 a f).cycles = s.cycles := rfl
@[simp] theorem State.setAF8_mode (s : State) (a f : Byte) : (s.setAF8 a f).mode = s.mode := rfl
@[simp] theorem State.setAF8_debugFlag (s : State) (a f : Byte) : (s.setAF8 a f).debugFlag = s.debugFlag := rfl
@[simp] theorem State.setAF8_breakpoints (s : State) (a f : Byte) : (s.setAF8 a f).breakpoints = s.breakpoints := rfl
@[simp] theorem State.setAF8_mem (s : State) (a f : Byte) : (s.setAF8 a f).mem = s.mem := rfl
@[simp] theorem State.setAF8_pages (s : State) (a f : Byte) : (s.setAF8 a f).pages = s.pages := rfl
@[simp] theorem State.setAF8_slots (s : State) (a f : Byte) : (s.setAF8 a f).slots = s.slots := rfl
@[simp] theorem State.setAF8_devices (s : State) (a f : Byte) : (s.setAF8 a f).devices = s.devices := rfl
@[simp] theorem State.setAF8_ioIn (s : State) (a f : Byte) : (s.setAF8 a f).ioIn = s.ioIn := rfl
@[simp] theorem State.setAF8_ioDraws (s : State) (a f : Byte) : (s.setAF8 a f).ioDraws = s.ioDraws := rfl
@[simp] theorem State.setAF8_ioTrace (s : State) (a f : Byte) : (s.setAF8 a f).ioTrace = s.ioTrace := rfl
@[simp] theorem State.setAF8_shutdownReasons (s : State) (a f : Byte) : (s.setAF8 a f).shutdownReasons = s.shutdownReasons := rfl
@[simp] theorem State.setAF8_result (s : State) (a f : Byte) : (s.setAF8 a f).result = s.result := rfl

@[simp] theorem State.setAF_regs (s : State) (w : Word) : (s.setAF w).regs = { s.regs with a := hi w, f := lo w } := rfl
@[simp] theorem State.setAF_afAlt (s : State) (w : Word) : (s.setAF w).afAlt = s.afAlt := rfl
@[simp] theorem State.setAF_bcAlt (s : State) (w : Word) : (s.setAF w).bcAlt = s.bcAlt := rfl
@[simp] theorem State.setAF_deAlt (s : State) (w : Word) : (s.setAF w).deAlt = s.deAlt := rfl
@[simp] theorem State.setAF_hlAlt (s : State) (w : Word) : (s.setAF w).hlAlt = s.hlAlt := rfl
@[simp] theorem State.setAF_ix (s : State) (w : Word) : (s.setAF w).ix = s.ix := rfl
@[simp] theorem State.setAF_iy (s : State) (w : Word) : (s.setAF w).iy = s.iy := rfl
@[simp] theorem State.setAF_sp (s : State) (w : Word) : (s.setAF w).sp = s.sp := rfl
@[simp] theorem State.setAF_pc (s : State) (w : Word) : (s.setAF w).pc = s.pc := rfl
@[simp] theorem State.setAF_wz (s : State) (w : Word) : (s.setAF w).wz = s.wz := rfl
@[simp] theorem State.setAF_i (s : State) (w : Word) : (s.setAF w).i = s.i := rfl
@[simp] theorem State.setAF_r (s : State) (w : Word) : (s.setAF w).r = s.r := rfl
@[simp] theorem State.setAF_im (s : State) (w : Word) : (s.setAF w).im = s.im := rfl
@[simp] theorem State.setAF_iff1 (s : State) (w : Word) : (s.setAF w).iff1 = s.iff1 := rfl
@[simp] theorem State.setAF_iff2 (s : State) (w : Word) : (s.setAF w).iff2 = s.iff2 := rfl
@[simp] theorem State.setAF_cycles (s : State) (w : Word) : (s.setAF w).cycles = s.cycles := rfl
@[simp] theorem State.setAF_mode (s : State) (w : Word) : (s.setAF w).mode = s.mode := rfl
@[simp] theorem State.setAF_debugFlag (s : State) (w : Word) : (s.setAF w).debugFlag = s.debugFlag := rfl
@[simp] theorem State.setAF_breakpoints (s : State) (w : Word) : (s.setAF w).breakpoints = s.breakpoints := rfl
@[simp] theorem State.setAF_mem (s : State) (w : Word) : (s.setAF w).mem = s.mem := rfl
@[simp] theorem State.setAF_pages (s : State) (w : Word) : (s.setAF w).pages = s.pages := rfl
@[simp] theorem State.setAF_slots (s : State) (w : Word) : (s.setAF w).slots = s.slots := rfl
@[simp] theorem State.setAF_devices (s : State) (w : Word) : (s.setAF w).devices = s.devices := rfl
@[simp] theorem State.setAF_ioIn (s : State) (w : Word) : (s.setAF w).ioIn = s.ioIn := rfl
@[simp] theorem State.setAF_ioDraws (s : State) (w : Word) : (s.setAF w).ioDraws = s.ioDraws := rfl
@[simp] theorem State.setAF_ioTrace (s : State) (w : Word) : (s.setAF w).ioTrace = s.ioTrace := rfl
@[simp] theorem State.setAF_shutdownReasons (s : State) (w : Word) : (s.setAF w).shutdownReasons = s.shutdownReasons := rfl
@[simp] theorem State.setAF_result (s : State) (w : Word) : (s.setAF w).result = s.result := rfl

@[simp] theorem State.setBC_regs (s : State) (w : Word) : (s.setBC w).regs = { s.regs with b := hi w, c := lo w } := rfl
@[simp] theorem State.setBC_afAlt (s : State) (w : Word) : (s.setBC w).afAlt = s.afAlt := rfl
@[simp] theorem State.setBC_bcAlt (s : State) (w : Word) : (s.setBC w).bcAlt = s.bcAlt := rfl
@[simp] theorem State.setBC_deAlt (s : State) (w : Word) : (s.setBC w).deAlt = s.deAlt := rfl
@[simp] theorem State.setBC_hlAlt (s : State) (w : Word) : (s.setBC w).hlAlt = s.hlAlt := rfl
@[simp] theorem State.setBC_ix (s : State) (w : Word) : (s.setBC w).ix = s.ix := rfl
@[simp] theorem State.setBC_iy (s : State) (w : Word) : (s.setBC w).iy = s.iy := rfl
@[simp] theorem State.setBC_sp (s : State) (w : Word) : (s.setBC w).sp = s.sp := rfl
@[simp] theorem State.setBC_pc (s : State) (w : Word) : (s.setBC w).pc = s.pc := rfl
@[simp] theorem State.setBC_wz (s : State) (w : Word) : (s.setBC w).wz = s.wz := rfl
@[simp] theorem State.setBC_i (s : State) (w : Word) : (s.setBC w).i = s.i := rfl
@[simp] theorem State.setBC_r (s : State) (w : Word) : (s.setBC w).r = s.r := rfl
@[simp] theorem State.setBC_im (s : State) (w : Word) : (s.setBC w).im = s.im := rfl
@[simp] theorem State.setBC_iff1 (s : State) (w : Word) : (s.setBC w).iff1 = s.iff1 := rfl
@[simp] theorem State.setBC_iff2 (s : State) (w : Word) : (s.setBC w).iff2 = s.iff2 := rfl
@[simp] theorem State.setBC_cycles (s : State) (w : Word) : (s.setBC w).cycles = s.cycles := rfl
@[simp] theorem State.setBC_mode (s : State) (w : Word) : (s.setBC w).mode = s.mode := rfl
@[simp] theorem State.setBC_debugFlag (s : State) (w : Word) : (s.setBC w).debugFlag = s.debugFlag := rfl
@[simp] theorem State.setBC_breakpoints (s : State) (w : Word) : (s.setBC w).breakpoints = s.breakpoints := rfl
@[simp] theorem State.setBC_mem (s : State) (w : Word) : (s.setBC w).mem = s.mem := rfl
@[simp] theorem State.setBC_pages (s : State) (w : Word) : (s.setBC w).pages = s.pages := rfl
@[simp] theorem State.setBC_slots (s : State) (w : Word) : (s.setBC w).slots = s.slots := rfl
@[simp] theorem State.setBC_devices (s : State) (w : Word) : (s.setBC w).devices = s.devices := rfl
@[simp] theorem State.setBC_ioIn (s : State) (w : Word) : (s.setBC w).ioIn = s.ioIn := rfl
@[simp] theorem State.setBC_ioDraws (s : State) (w : Word) : (s.setBC w).ioDraws = s.ioDraws := rfl
@[simp] theorem State.setBC_ioTrace (s : State) (w : Word) : (s.setBC w).ioTrace = s.ioTrace := rfl
@[simp] theorem State.setBC_shutdownReasons (s : State) (w : Word) : (s.setBC w).shutdownReasons = s.shutdownReasons := rfl
@[simp] theorem State.setBC_result (s : State) (w : Word) : (s.setBC w).result = s.result := rfl

@[simp] theorem State.setDE_regs (s : State) (w : Word) : (s.setDE w).regs = { s.regs with d := hi w, e := lo w } := rfl
@[simp] theorem State.setDE_afAlt (s : State) (w : Word) : (s.setDE w).afAlt = s.afAlt := rfl
@[simp] theorem State.setDE_bcAlt (s : State) (w : Word) : (s.setDE w).bcAlt = s.bcAlt := rfl
@[simp] theorem State.setDE_deAlt (s : State) (w : Word) : (s.setDE w).deAlt = s.deAlt := rfl
@[simp] theorem State.setDE_hlAlt (s : State) (w : Word) : (s.setDE w).hlAlt = s.hlAlt := rfl
@[simp] theorem State.setDE_ix (s : State) (w : Word) : (s.setDE w).ix = s.ix := rfl
@[simp] theorem State.setDE_iy (s : State) (w : Word) : (s.setDE w).iy = s.iy := rfl
@[simp] theorem State.setDE_sp (s : State) (w : Word) : (s.setDE w).sp = s.sp := rfl
@[simp] theorem State.setDE_pc (s : State) (w : Word) : (s.setDE w).pc = s.pc := rfl
@[simp] theorem State.setDE_wz (s : State) (w : Word) : (s.setDE w).wz = s.wz := rfl
@[simp] theorem State.setDE_i (s : State) (w : Word) : (s.setDE w).i = s.i := rfl
@[simp] theorem State.setDE_r (s : State) (w : Word) : (s.setDE w).r = s.r := rfl
@[simp] theorem State.setDE_im (s : State) (w : Word) : (s.setDE w).im = s.im := rfl
@[simp] theorem State.setDE_iff1 (s : State) (w : Word) : (s.setDE w).iff1 = s.iff1 := rfl
@[simp] theorem State.setDE_iff2 (s : State) (w : Word) : (s.setDE w).iff2 = s.iff2 := rfl
@[simp] theorem State.setDE_cycles (s : State) (w : Word) : (s.setDE w).cycles = s.cycles := rfl
@[simp] theorem State.setDE_mode (s : State) (w : Word) : (s.setDE w).mode = s.mode := rfl
@[simp] theorem State.setDE_debugFlag (s : State) (w : Word) : (s.setDE w).debugFlag = s.debugFlag := rfl
@[simp] theorem State.setDE_breakpoints (s : State) (w : Word) : (s.setDE w).breakpoints = s.breakpoints := rfl
@[simp] theorem State.setDE_mem (s : State) (w : Word) : (s.setDE w).mem = s.mem := rfl
@[simp] theorem State.setDE_pages (s : State) (w : Word) : (s.setDE w).pages = s.pages := rfl
@[simp] theorem State.setDE_slots (s : State) (w : Word) : (s.setDE w).slots = s.slots := rfl
@[simp] theorem State.setDE_devices (s : State) (w : Word) : (s.setDE w).devices = s.devices := rfl
@[simp] theorem State.setDE_ioIn (s : State) (w : Word) : (s.setDE w).ioIn = s.ioIn := rfl
@[simp] theorem State.setDE_ioDraws (s : State) (w : Word) : (s.setDE w).ioDraws = s.ioDraws := rfl
@[simp] theorem State.setDE_ioTrace (s : State) (w : Word) : (s.setDE w).ioTrace = s.ioTrace := rfl
@[simp] theorem State.setDE_shutdownReasons (s : State) (w : Word) : (s.setDE w).shutdownReasons = s.shutdownReasons := rfl
@[simp] theorem State.setDE_result (s : State) (w : Word) : (s.setDE w).result = s.result := rfl

@[simp] theorem State.setHL_regs (s : State) (w : Word) : (s.setHL w).regs = { s.regs with h := hi w, l := lo w } := rfl
@[simp] theorem State.setHL_afAlt (s : State) (w : Word) : (s.setHL w).afAlt = s.afAlt := rfl
@[simp] theorem State.setHL_bcAlt (s : State) (w : Word) : (s.setHL w).bcAlt = s.bcAlt := rfl
@[simp] theorem State.setHL_deAlt (s : State) (w : Word) : (s.setHL w).deAlt = s.deAlt := rfl
@[simp] theorem State.setHL_hlAlt (s : State) (w : Word) : (s.setHL w).hlAlt = s.hlAlt := rfl
@[simp] theorem State.setHL_ix (s : State) (w : Word) : (s.setHL w).ix = s.ix := rfl
@[simp] theorem State.setHL_iy (s : State) (w : Word) : (s.setHL w).iy = s.iy := rfl
@[simp] theorem State.setHL_sp (s : State) (w : Word) : (s.setHL w).sp = s.sp := rfl
@[simp] theorem State.setHL_pc (s : State) (w : Word) : (s.setHL w).pc = s.pc := rfl
@[simp] theorem State.setHL_wz (s : State) (w : Word) : (s.setHL w).wz = s.wz := rfl
@[simp] theorem State.setHL_i (s : State) (w : Word) : (s.setHL w).i = s.i := rfl
@[simp] theorem State.setHL_r (s : State) (w : Word) : (s.setHL w).r = s.r := rfl
@[simp] theorem State.setHL_im (s : State) (w : Word) : (s.setHL w).im = s.im := rfl
@[simp] theorem State.setHL_iff1 (s : State) (w : Word) : (s.setHL w).iff1 = s.iff1 := rfl
@[simp] theorem State.setHL_iff2 (s : State) (w : Word) : (s.setHL w).iff2 = s.iff2 := rfl
@[simp] theorem State.setHL_cycles (s : State) (w : Word) : (s.setHL w).cycles = s.cycles := rfl
@[simp] theorem State.setHL_mode (s : State) (w : Word) : (s.setHL w).mode = s.mode := rfl
@[simp] theorem State.setHL_debugFlag (s : State) (w : Word) : (s.setHL w).debugFlag = s.debugFlag := rfl
@[simp] theorem State.setHL_breakpoints (s : State) (w : Word) : (s.setHL w).breakpoints = s.breakpoints := rfl
@[simp] theorem State.setHL_mem (s : State) (w : Word) : (s.setHL w).mem = s.mem := rfl
@[simp] theorem State.setHL_pages (s : State) (w : Word) : (s.setHL w).pages = s.pages := rfl
@[simp] theorem State.setHL_slots (s : State) (w : Word) : (s.setHL w).slots = s.slots := rfl
@[simp] theorem State.setHL_devices (s : State) (w : Word) : (s.setHL w).devices = s.devices := rfl
@[simp] theorem State.setHL_ioIn (s : State) (w : Word) : (s.setHL w).ioIn = s.ioIn := rfl
@[simp] theorem State.setHL_ioDraws (s : State) (w : Word) : (s.setHL w).ioDraws = s.ioDraws := rfl
@[simp] theorem State.setHL_ioTrace (s : State) (w : Word) : (s.setHL w).ioTrace = s.ioTrace := rfl
@[simp] theorem State.setHL_shutdownReasons (s : State) (w : Word) : (s.setHL w).shutdownReasons = s.shutdownReasons := rfl
@[simp] theorem State.setHL_result (s : State) (w : Word) : (s.setHL w).result = s.result := rfl

@[simp] theorem State.setWZ_regs (s : State) (w : Word) : (s.setWZ w).regs = s.regs := rfl
@[simp] theorem State.setWZ_afAlt (s : State) (w : Word) : (s.setWZ w).afAlt = s.afAlt := rfl
@[simp] theorem State.setWZ_bcAlt (s : State) (w : Word) : (s.setWZ w).bcAlt = s.bcAlt := rfl
@[simp] theorem State.setWZ_deAlt (s : State) (w : Word) : (s.setWZ w).deAlt = s.deAlt := rfl
@[simp] theorem State.setWZ_hlAlt (s : State) (w : Word) : (s.setWZ w).hlAlt = s.hlAlt := rfl
@[simp] theorem State.setWZ_ix (s : State) (w : Word) : (s.setWZ w).ix = s.ix := rfl
@[simp] theorem State.setWZ_iy (s : State) (w : Word) : (s.setWZ w).iy = s.iy := rfl
@[simp] theorem State.setWZ_sp (s : State) (w : Word) : (s.setWZ w).sp = s.sp := rfl
@[simp] theorem State.setWZ_pc (s : State) (w : Word) : (s.setWZ w).pc = s.pc := rfl
@[simp] theorem State.setWZ_wz (s : State) (w : Word) : (s.setWZ w).wz = w := rfl
@[simp] theorem State.setWZ_i (s : State) (w : Word) : (s.setWZ w).i = s.i := rfl
@[simp] theorem State.setWZ_r (s : State) (w : Word) : (s.setWZ w).r = s.r := rfl
@[simp] theorem State.setWZ_im (s : State) (w : Word) : (s.setWZ w).im = s.im := rfl
@[simp] theorem State.setWZ_iff1 (s : State) (w : Word) : (s.setWZ w).iff1 = s.iff1 := rfl
@[simp] theorem State.setWZ_iff2 (s : State) (w : Word) : (s.setWZ w).iff2 = s.iff2 := rfl
@[simp] theorem State.setWZ_cycles (s : State) (w : Word) : (s.setWZ w).cycles = s.cycles := rfl
@[simp] theorem State.setWZ_mode (s : State) (w : Word) : (s.setWZ w).mode = s.mode := rfl
@[simp] theorem State.setWZ_debugFlag (s : State) (w : Word) : (s.setWZ w).debugFlag = s.debugFlag := rfl
@[simp] theorem State.setWZ_breakpoints (s : State) (w : Word) : (s.setWZ w).breakpoints = s.breakpoints := rfl
@[simp] theorem State.setWZ_mem (s : State) (w : Word) : (s.setWZ w).mem = s.mem := rfl
@[simp] theorem State.setWZ_pages (s : State) (w : Word) : (s.setWZ w).pages = s.pages := rfl
@[simp] theorem State.setWZ_slots (s : State) (w : Word) : (s.setWZ w).slots = s.slots := rfl
@[simp] theorem State.setWZ_devices (s : State) (w : Word) : (s.setWZ w).devices = s.devices := rfl
@[simp] theorem State.setWZ_ioIn (s : State) (w : Word) : (s.setWZ w).ioIn = s.ioIn := rfl
@[simp] theorem State.setWZ_ioDraws (s : State) (w : Word) : (s.setWZ w).ioDraws = s.ioDraws := rfl
@[simp] theorem State.setWZ_ioTrace (s : State) (w : Word) : (s.setWZ w).ioTrace = s.ioTrace := rfl
@[simp] theorem State.setWZ_shutdownReasons (s : State) (w : Word) : (s.setWZ w).shutdownReasons = s.shutdownReasons := rfl
@[simp] theorem State.setWZ_result (s : State) (w : Word) : (s.setWZ w).result = s.result := rfl

@[simp] theorem State.poke_regs (s : State) (a : Word) (v : Byte) : (s.poke a v).regs = s.regs := rfl
@[simp] theorem State.poke_afAlt (s : State) (a : Word) (v : Byte) : (s.poke a v).afAlt = s.afAlt := rfl
@[simp] theorem State.poke_bcAlt (s : State) (a : Word) (v : Byte) : (s.poke a v).bcAlt = s.bcAlt := rfl
@[simp] theorem State.poke_deAlt (s : State) (a : Word) (v : Byte) : (s.poke a v).deAlt = s.deAlt := rfl
@[simp] theorem State.poke_hlAlt (s : State) (a : Word) (v : Byte) : (s.poke a v).hlAlt = s.hlAlt := rfl
@[simp] theorem State.poke_ix (s : State) (a : Word) (v : Byte) : (s.poke a v).ix = s.ix := rfl
@[simp] theorem State.poke_iy (s : State) (a : Word) (v : Byte) : (s.poke a v).iy = s.iy := rfl
@[simp] theorem State.poke_sp (s : State) (a : Word) (v : Byte) : (s.poke a v).sp = s.sp := rfl
@[simp] theorem State.poke_pc (s : State) (a : Word) (v : Byte) : (s.poke a v).pc = s.pc := rfl
@[simp] theorem State.poke_wz (s : State) (a : Word) (v : Byte) : (s.poke a v).wz = s.wz := rfl
@[simp] theorem State.poke_i (s : State) (a : Word) (v : Byte) : (s.poke a v).i = s.i := rfl
@[simp] theorem State.poke_r (s : State) (a : Word) (v : Byte) : (s.poke a v).r = s.r := rfl
@[simp] theorem State.poke_im (s : State) (a : Word) (v : Byte) : (s.poke a v).im = s.im := rfl
@[simp] theorem State.poke_iff1 (s : State) (a : Word) (v : Byte) : (s.poke a v).iff1 = s.iff1 := rfl
@[simp] theorem State.poke_iff2 (s : State) (a : Word) (v : Byte) : (s.poke a v).iff2 = s.iff2 := rfl
@[simp] theorem State.poke_cycles (s : State) (a : Word) (v : Byte) : (s.poke a v).cycles = s.cycles := rfl
@[simp] theorem State.poke_mode (s : State) (a : Word) (v : Byte) : (s.poke a v).mode = s.mode := rfl
@[simp] theorem State.poke_debugFlag (s : State) (a : Word) (v : Byte) : (s.poke a v).debugFlag = s.debugFlag := rfl
@[simp] theorem State.poke_breakpoints (s : State) (a : Word) (v : Byte) : (s.poke a v).breakpoints = s.breakpoints := rfl
@[simp] theorem State.poke_mem (s : State) (a : Word) (v : Byte) : (s.poke a v).mem = Memory.write s.mem a.toNat v := rfl
@[simp] theorem State.poke_pages (s : State) (a : Word) (v : Byte) : (s.poke a v).pages = s.pages := rfl
@[simp] theorem State.poke_slots (s : State) (a : Word) (v : Byte) : (s.poke a v).slots = s.slots := rfl
@[simp] theorem State.poke_devices (s : State) (a : Word) (v : Byte) : (s.poke a v).devices = s.devices := rfl
@[simp] theorem State.poke_ioIn (s : State) (a : Word) (v : Byte) : (s.poke a v).ioIn = s.ioIn := rfl
@[simp] theorem State.poke_ioDraws (s : State) (a : Word) (v : Byte) : (s.poke a v).ioDraws = s.ioDraws := rfl
@[simp] theorem State.poke_ioTrace (s : State) (a : Word) (v : Byte) : (s.poke a v).ioTrace = s.ioTrace := rfl
@[simp] theorem State.poke_shutdownReasons (s : State) (a : Word) (v : Byte) : (s.poke a v).shutdownReasons = s.shutdownReasons := rfl
@[simp] theorem State.poke_result (s : State) (a : Word) (v : Byte) : (s.poke a v).result = s.result := rfl

@[simp] theorem State.setDevice_regs (s : State) (k : Nat) (dev : Device) : (s.setDevice k dev).regs = s.regs := rfl
@[simp] theorem State.setDevice_afAlt (s : State) (k : Nat) (dev : Device) : (s.setDevice k dev).afAlt = s.afAlt := rfl
@[simp] theorem State.setDevice_bcAlt (s : State) (k : Nat) (dev : Device) : (s.setDevice k dev).bcAlt = s.bcAlt := rfl
@[simp] theorem State.setDevice_deAlt (s : State) (k : Nat) (dev : Device) : (s.setDevice k dev).deAlt = s.deAlt := rfl
@[simp] theorem State.setDevice_hlAlt (s : State) (k : Nat) (dev : Device) : (s.setDevice k dev).hlAlt = s.hlAlt := rfl
@[simp] theorem State.setDevice_ix (s : State) (k : Nat) (dev : Device) : (s.setDevice k dev).ix = s.ix := rfl
@[simp] theorem State.setDevice_iy (s : State) (k : Nat) (dev : Device) : (s.setDevice k dev).iy = s.iy := rfl
@[simp] theorem State.setDevice_sp (s : State) (k : Nat) (dev : Device) : (s.setDevice k dev).sp = s.sp := rfl
@[simp] theorem State.setDevice_pc (s : State) (k : Nat) (dev : Device) : (s.setDevice k dev).pc = s.pc := rfl
@[simp] theorem State.setDevice_wz (s : State) (k : Nat) (dev : Device) : (s.setDevice k dev).wz = s.wz := rfl
@[simp] theorem State.setDevice_i (s : State) (k : Nat) (dev : Device) : (s.setDevice k dev).i = s.i := rfl
@[simp] theorem State.setDevice_r (s : State) (k : Nat) (dev : Device) : (s.setDevice k dev).r = s.r := rfl
@[simp] theorem State.setDevice_im (s : State) (k : Nat) (dev : Device) : (s.setDevice k dev).im = s.im := rfl
@[simp] theorem State.setDevice_iff1 (s : State) (k : Nat) (dev : Device) : (s.setDevice k dev).iff1 = s.iff1 := rfl
@[simp] theorem State.setDevice_iff2 (s : State) (k : Nat) (dev : Device) : (s.setDevice k dev).iff2 = s.iff2 := rfl
@[simp] theorem State.setDevice_cycles (s : State) (k : Nat) (dev : Device) : (s.setDevice k dev).cycles = s.cycles := rfl
@[simp] theorem State.setDevice_mode (s : State) (k : Nat) (dev : Device) : (s.setDevice k dev).mode = s.mode := rfl
@[simp] theorem State.setDevice_debugFlag (s : State) (k : Nat) (dev : Device) : (s.setDevice k dev).debugFlag = s.debugFlag := rfl
@[simp] theorem State.setDevice_breakpoints (s : State) (k : Nat) (dev : Device) : (s.setDevice k dev).breakpoints = s.breakpoints := rfl
@[simp] theorem State.setDevice_mem (s : State) (k : Nat) (dev : Device) : (s.setDevice k dev).mem = s.mem := rfl
@[simp] theorem State.setDevice_pages (s : State) (k : Nat) (dev : Device) : (s.setDevice k dev).pages = s.pages := rfl
@[simp] theorem State.setDevice_slots (s : State) (k : Nat) (dev : Device) : (s.setDevice k dev).slots = s.slots := rfl
@[simp] theorem State.setDevice_devices (s : State) (k : Nat) (dev : Device) : (s.setDevice k dev).devices = replaceAt s.devices k dev := rfl
@[simp] theorem State.setDevice_ioIn (s : State) (k : Nat) (dev : Device) : (s.setDevice k dev).ioIn = s.ioIn := rfl
@[simp] theorem State.setDevice_ioDraws (s : State) (k : Nat) (dev : Device) : (s.setDevice k dev).ioDraws = s.ioDraws := rfl
@[simp] theorem State.setDevice_ioTrace (s : State) (k : Nat) (dev : Device) : (s.setDevice k dev).ioTrace = s.ioTrace := rfl
@[simp] theorem State.setDevice_shutdownReasons (s : State) (k : Nat) (dev : Device) : (s.setDevice k dev).shutdownReasons = s.shutdownReasons := rfl
@[simp] theorem State.setDevice_result (s : State) (k : Nat) (dev : Device) : (s.setDevice k dev).result = s.result := rfl

@[simp] theorem State.finishAt_regs (s : State) (target : Word) (cost : Nat) : (s.finishAt target cost).regs = s.regs := rfl
@[simp] theorem State.finishAt_afAlt (s : State) (target : Word) (cost : Nat) : (s.finishAt target cost).afAlt = s.afAlt := rfl
@[simp] theorem State.finishAt_bcAlt (s : State) (target : Word) (cost : Nat) : (s.finishAt target cost).bcAlt = s.bcAlt := rfl
@[simp] theorem State.finishAt_deAlt (s : State) (target : Word) (cost : Nat) : (s.finishAt target cost).deAlt = s.deAlt := rfl
@[simp] theorem State.finishAt_hlAlt (s : State) (target : Word) (cost : Nat) : (s.finishAt target cost).hlAlt = s.hlAlt := rfl
@[simp] theorem State.finishAt_ix (s : State) (target : Word) (cost : Nat) : (s.finishAt target cost).ix = s.ix := rfl
@[simp] theorem State.finishAt_iy (s : State) (target : Word) (cost : Nat) : (s.finishAt target cost).iy = s.iy := rfl
@[simp] theorem State.finishAt_sp (s : State) (target : Word) (cost : Nat) : (s.finishAt target cost).sp = s.sp := rfl
@[simp] theorem State.finishAt_pc (s : State) (target : Word) (cost : Nat) : (s.finishAt target cost).pc = target := rfl
@[simp] theorem State.finishAt_wz (s : State) (target : Word) (cost : Nat) : (s.finishAt target cost).wz = s.wz := rfl
@[simp] theorem State.finishAt_i (s : State) (target : Word) (cost : Nat) : (s.finishAt target cost).i = s.i := rfl
@[simp] theorem State.finishAt_r (s : State) (target : Word) (cost : Nat) : (s.finishAt target cost).r = s.r := rfl
@[simp] theorem State.finishAt_im (s : State) (target : Word) (cost : Nat) : (s.finishAt target cost).im = s.im := rfl
@[simp] theorem State.finishAt_iff1 (s : State) (target : Word) (cost : Nat) : (s.finishAt target cost).iff1 = s.iff1 := rfl
@[simp] theorem State.finishAt_iff2 (s : State) (target : Word) (cost : Nat) : (s.finishAt target cost).iff2 = s.iff2 := rfl
@[simp] theorem State.finishAt_cycles (s : State) (target : Word) (cost : Nat) : (s.finishAt target cost).cycles = s.cycles + BitVec.ofNat 64 cost := rfl
@[simp] theorem State.finishAt_mode (s : State) (target : Word) (cost : Nat) : (s.finishAt target cost).mode = s.mode := rfl
@[simp] theorem State.finishAt_debugFlag (s : State) (target : Word) (cost : Nat) : (s.finishAt target cost).debugFlag = s.debugFlag := rfl
@[simp] theorem State.finishAt_breakpoints (s : State) (target : Word) (cost : Nat) : (s.finishAt target cost).breakpoints = s.breakpoints := rfl
@[simp] theorem State.finishAt_mem (s : State) (target : Word) (cost : Nat) : (s.finishAt target cost).mem = s.mem := rfl
@[simp] theorem State.finishAt_pages (s : State) (target : Word) (cost : Nat) : (s.finishAt target cost).pages = s.pages := rfl
@[simp] theorem State.finishAt_slots (s : State) (target : Word) (cost : Nat) : (s.finishAt target cost).slots = s.slots := rfl
@[simp] theorem State.finishAt_devices (s : State) (target : Word) (cost : Nat) : (s.finishAt target cost).devices = s.devices := rfl
@[simp] theorem State.finishAt_ioIn (s : State) (target : Word) (cost : Nat) : (s.finishAt target cost).ioIn = s.ioIn := rfl
@[simp] theorem State.finishAt_ioDraws (s : State) (target : Word) (cost : Nat) : (s.finishAt target cost).ioDraws = s.ioDraws := rfl
@[simp] theorem State.finishAt_ioTrace (s : State) (target : Word) (cost : Nat) : (s.finishAt target cost).ioTrace = s.ioTrace := rfl
@[simp] theorem State.finishAt_shutdownReasons (s : State) (target : Word) (cost : Nat) : (s.finishAt target cost).shutdownReasons = s.shutdownReasons := rfl
@[simp] theorem State.finishAt_result (s : State) (target : Word) (cost : Nat) : (s.finishAt target cost).result = .ok := rfl

@[simp] theorem State.finish_regs (s : State) (len cost : Nat) : (s.finish len cost).regs = s.regs := rfl
@[simp] theorem State.finish_afAlt (s : State) (len cost : Nat) : (s.finish len cost).afAlt = s.afAlt := rfl
@[simp] theorem State.finish_bcAlt (s : State) (len cost : Nat) : (s.finish len cost).bcAlt = s.bcAlt := rfl
@[simp] theorem State.finish_deAlt (s : State) (len cost : Nat) : (s.finish len cost).deAlt = s.deAlt := rfl
@[simp] theorem State.finish_hlAlt (s : State) (len cost : Nat) : (s.finish len cost).hlAlt = s.hlAlt := rfl
@[simp] theorem State.finish_ix (s : State) (len cost : Nat) : (s.finish len cost).ix = s.ix := rfl
@[simp] theorem State.finish_iy (s : State) (len cost : Nat) : (s.finish len cost).iy = s.iy := rfl
@[simp] theorem State.finish_sp (s : State) (len cost : Nat) : (s.finish len cost).sp = s.sp := rfl
@[simp] theorem State.finish_pc (s : State) (len cost : Nat) : (s.finish len cost).pc = s.nextPc len := rfl
@[simp] theorem State.finish_wz (s : State) (len cost : Nat) : (s.finish len cost).wz = s.wz := rfl
@[simp] theorem State.finish_i (s : State) (len cost : Nat) : (s.finish len cost).i = s.i := rfl
@[simp] theorem State.finish_r (s : State) (len cost : Nat) : (s.finish len cost).r = s.r := rfl
@[simp] theorem State.finish_im (s : State) (len cost : Nat) : (s.finish len cost).im = s.im := rfl
@[simp] theorem State.finish_iff1 (s : State) (len cost : Nat) : (s.finish len cost).iff1 = s.iff1 := rfl
@[simp] theorem State.finish_iff2 (s : State) (len cost : Nat) : (s.finish len cost).iff2 = s.iff2 := rfl
@[simp] theorem State.finish_cycles (s : State) (len cost : Nat) : (s.finish len cost).cycles = s.cycles + BitVec.ofNat 64 cost := rfl
@[simp] theorem State.finish_mode (s : State) (len cost : Nat) : (s.finish len cost).mode = s.mode := rfl
@[simp] theorem State.finish_debugFlag (s : State) (len cost : Nat) : (s.finish len cost).debugFlag = s.debugFlag := rfl
@[simp] theorem State.finish_breakpoints (s : State) (len cost : Nat) : (s.finish len cost).breakpoints = s.breakpoints := rfl
@[simp] theorem State.finish_mem (s : State) (len cost : Nat) : (s.finish len cost).mem = s.mem := rfl
@[simp] theorem State.finish_pages (s : State) (len cost : Nat) : (s.finish len cost).pages = s.pages := rfl
@[simp] theorem State.finish_slots (s : State) (len cost : Nat) : (s.finish len cost).slots = s.slots := rfl
@[simp] theorem State.finish_devices (s : State) (len cost : Nat) : (s.finish len cost).devices = s.devices := rfl
@[simp] theorem State.finish_ioIn (s : State) (len cost : Nat) : (s.finish len cost).ioIn = s.ioIn := rfl
@[simp] theorem State.finish_ioDraws (s : State) (len cost : Nat) : (s.finish len cost).ioDraws = s.ioDraws := rfl
@[simp] theorem State.finish_ioTrace (s : State) (len cost : Nat) : (s.finish len cost).ioTrace = s.ioTrace := rfl
@[simp] theorem State.finish_shutdownReasons (s : State) (len cost : Nat) : (s.finish len cost).shutdownReasons = s.shutdownReasons := rfl
@[simp] theorem State.finish_result (s : State) (len cost : Nat) : (s.finish len cost).result = .ok := rfl

@[simp] theorem State.haltCondition_regs (s : State) (cost : Nat) : (s.haltCondition cost).regs = s.regs := rfl
@[simp] theorem State.haltCondition_afAlt (s : State) (cost : Nat) : (s.haltCondition cost).afAlt = s.afAlt := rfl
@[simp] theorem State.haltCondition_bcAlt (s : State) (cost : Nat) : (s.haltCondition cost).bcAlt = s.bcAlt := rfl
@[simp] theorem State.haltCondition_deAlt (s : State) (cost : Nat) : (s.haltCondition cost).deAlt = s.deAlt := rfl
@[simp] theorem State.haltCondition_hlAlt (s : State) (cost : Nat) : (s.haltCondition cost).hlAlt = s.hlAlt := rfl
@[simp] theorem State.haltCondition_ix (s : State) (cost : Nat) : (s.haltCondition cost).ix = s.ix := rfl
@[simp] theorem State.haltCondition_iy (s : State) (cost : Nat) : (s.haltCondition cost).iy = s.iy := rfl
@[simp] theorem State.haltCondition_sp (s : State) (cost : Nat) : (s.haltCondition cost).sp = s.sp := rfl
@[simp] theorem State.haltCondition_pc (s : State) (cost : Nat) : (s.haltCondition cost).pc = s.pc := rfl
@[simp] theorem State.haltCondition_wz (s : State) (cost : Nat) : (s.haltCondition cost).wz = s.wz := rfl
@[simp] theorem State.haltCondition_i (s : State) (cost : Nat) : (s.haltCondition cost).i = s.i := rfl
@[simp] theorem State.haltCondition_r (s : State) (cost : Nat) : (s.haltCondition cost).r = s.r := rfl
@[simp] theorem State.haltCondition_im (s : State) (cost : Nat) : (s.haltCondition cost).im = s.im := rfl
@[simp] theorem State.haltCondition_iff1 (s : State) (cost : Nat) : (s.haltCondition cost).iff1 = s.iff1 := rfl
@[simp] theorem State.haltCondition_iff2 (s : State) (cost : Nat) : (s.haltCondition cost).iff2 = s.iff2 := rfl
@[simp] theorem State.haltCondition_cycles (s : State) (cost : Nat) : (s.haltCondition cost).cycles = s.cycles + BitVec.ofNat 64 cost := rfl
@[simp] theorem State.haltCondition_mode (s : State) (cost : Nat) : (s.haltCondition cost).mode = s.mode := rfl
@[simp] theorem State.haltCondition_debugFlag (s : State) (cost : Nat) : (s.haltCondition cost).debugFlag = s.debugFlag := rfl
@[simp] theorem State.haltCondition_breakpoints (s : State) (cost : Nat) : (s.haltCondition cost).breakpoints = s.breakpoints := rfl
@[simp] theorem State.haltCondition_mem (s : State) (cost : Nat) : (s.haltCondition cost).mem = s.mem := rfl
@[simp] theorem State.haltCondition_pages (s : State) (cost : Nat) : (s.haltCondition cost).pages = s.pages := rfl
@[simp] theorem State.haltCondition_slots (s : State) (cost : Nat) : (s.haltCondition cost).slots = s.slots := rfl
@[simp] theorem State.haltCondition_devices (s : State) (cost : Nat) : (s.haltCondition cost).devices = s.devices := rfl
@[simp] theorem State.haltCondition_ioIn (s : State) (cost : Nat) : (s.haltCondition cost).ioIn = s.ioIn := rfl
@[simp] theorem State.haltCondition_ioDraws (s : State) (cost : Nat) : (s.haltCondition cost).ioDraws = s.ioDraws := rfl
@[simp] theorem State.haltCondition_ioTrace (s : State) (cost : Nat) : (s.haltCondition cost).ioTrace = s.ioTrace := rfl
@[simp] theorem State.haltCondition_shutdownReasons (s : State) (cost : Nat) : (s.haltCondition cost).shutdownReasons = s.shutdownReasons := rfl
@[simp] theorem State.haltCondition_result (s : State) (cost : Nat) : (s.haltCondition cost).result = .halt s.pc := rfl

@[simp] theorem State.setPair_afAlt (s : State) (p : Pair) (w : Word) : (s.setPair p w).afAlt = s.afAlt := by cases p <;> rfl
@[simp] theorem State.setPair_bcAlt (s : State) (p : Pair) (w : Word) : (s.setPair p w).bcAlt = s.bcAlt := by cases p <;> rfl
@[simp] theorem State.setPair_deAlt (s : State) (p : Pair) (w : Word) : (s.setPair p w).deAlt = s.deAlt := by cases p <;> rfl
@[simp] theorem State.setPair_hlAlt (s : State) (p : Pair) (w : Word) : (s.setPair p w).hlAlt = s.hlAlt := by cases p <;> rfl
@[simp] theorem State.setPair_ix (s : State) (p : Pair) (w : Word) : (s.setPair p w).ix = s.ix := by cases p <;> rfl
@[simp] theorem State.setPair_iy (s : State) (p : Pair) (w : Word) : (s.setPair p w).iy = s.iy := by cases p <;> rfl
@[simp] theorem State.setPair_pc (s : State) (p : Pair) (w : Word) : (s.setPair p w).pc = s.pc := by cases p <;> rfl
@[simp] theorem State.setPair_wz (s : State) (p : Pair) (w : Word) : (s.setPair p w).wz = s.wz := by cases p <;> rfl
@[simp] theorem State.setPair_i (s : State) (p : Pair) (w : Word) : (s.setPair p w).i = s.i := by cases p <;> rfl
@[simp] theorem State.setPair_r (s : State) (p : Pair) (w : Word) : (s.setPair p w).r = s.r := by cases p <;> rfl
@[simp] theorem State.setPair_im (s : State) (p : Pair) (w : Word) : (s.setPair p w).im = s.im := by cases p <;> rfl
@[simp] theorem State.setPair_iff1 (s : State) (p : Pair) (w : Word) : (s.setPair p w).iff1 = s.iff1 := by cases p <;> rfl
@[simp] theorem State.setPair_iff2 (s : State) (p : Pair) (w : Word) : (s.setPair p w).iff2 = s.iff2 := by cases p <;> rfl
@[simp] theorem State.setPair_cycles (s : State) (p : Pair) (w : Word) : (s.setPair p w).cycles = s.cycles := by cases p <;> rfl
@[simp] theorem State.setPair_mode (s : State) (p : Pair) (w : Word) : (s.setPair p w).mode = s.mode := by cases p <;> rfl
@[simp] theorem State.setPair_debugFlag (s : State) (p : Pair) (w : Word) : (s.setPair p w).debugFlag = s.debugFlag := by cases p <;> rfl
@[simp] theorem State.setPair_breakpoints (s : State) (p : Pair) (w : Word) : (s.setPair p w).breakpoints = s.breakpoints := by cases p <;> rfl
@[simp] theorem State.setPair_mem (s : State) (p : Pair) (w : Word) : (s.setPair p w).mem = s.mem := by cases p <;> rfl
@[simp] theorem State.setPair_pages (s : State) (p : Pair) (w : Word) : (s.setPair p w).pages = s.pages := by cases p <;> rfl
@[simp] theorem State.setPair_slots (s : State) (p : Pair) (w : Word) : (s.setPair p w).slots = s.slots := by cases p <;> rfl
@[simp] theorem State.setPair_devices (s : State) (p : Pair) (w : Word) : (s.setPair p w).devices = s.devices := by cases p <;> rfl
@[simp] theorem State.setPair_ioIn (s : State) (p : Pair) (w : Word) : (s.setPair p w).ioIn = s.ioIn := by cases p <;> rfl
@[simp] theorem State.setPair_ioDraws (s : State) (p : Pair) (w : Word) : (s.setPair p w).ioDraws = s.ioDraws := by cases p <;> rfl
@[simp] theorem State.setPair_ioTrace (s : State) (p : Pair) (w : Word) : (s.setPair p w).ioTrace = s.ioTrace := by cases p <;> rfl
@[simp] theorem State.setPair_shutdownReasons (s : State) (p : Pair) (w : Word) : (s.setPair p w).shutdownReasons = s.shutdownReasons := by cases p <;> rfl
@[simp] theorem State.setPair_result (s : State) (p : Pair) (w : Word) : (s.setPair p w).result = s.result := by cases p <;> rfl

@[simp] theorem State.setStackPair_afAlt (s : State) (q : StackPair) (w : Word) : (s.setStackPair q w).afAlt = s.afAlt := by cases q <;> rfl
@[simp] theorem State.setStackPair_bcAlt (s : State) (q : StackPair) (w : Word) : (s.setStackPair q w).bcAlt = s.bcAlt := by cases q <;> rfl
@[simp] theorem State.setStackPair_deAlt (s : State) (q : StackPair) (w : Word) : (s.setStackPair q w).deAlt = s.deAlt := by cases q <;> rfl
@[simp] theorem State.setStackPair_hlAlt (s : State) (q : StackPair) (w : Word) : (s.setStackPair q w).hlAlt = s.hlAlt := by cases q <;> rfl
@[simp] theorem State.setStackPair_ix (s : State) (q : StackPair) (w : Word) : (s.setStackPair q w).ix = s.ix := by cases q <;> rfl
@[simp] theorem State.setStackPair_iy (s : State) (q : StackPair) (w : Word) : (s.setStackPair q w).iy = s.iy := by cases q <;> rfl
@[simp] theorem State.setStackPair_sp (s : State) (q : StackPair) (w : Word) : (s.setStackPair q w).sp = s.sp := by cases q <;> rfl
@[simp] theorem State.setStackPair_pc (s : State) (q : StackPair) (w : Word) : (s.setStackPair q w).pc = s.pc := by cases q <;> rfl
@[simp] theorem State.setStackPair_wz (s : State) (q : StackPair) (w : Word) : (s.setStackPair q w).wz = s.wz := by cases q <;> rfl
@[simp] theorem State.setStackPair_i (s : State) (q : StackPair) (w : Word) : (s.setStackPair q w).i = s.i := by cases q <;> rfl
@[simp] theorem State.setStackPair_r (s : State) (q : StackPair) (w : Word) : (s.setStackPair q w).r = s.r := by cases q <;> rfl
@[simp] theorem State.setStackPair_im (s : State) (q : StackPair) (w : Word) : (s.setStackPair q w).im = s.im := by cases q <;> rfl
@[simp] theorem State.setStackPair_iff1 (s : State) (q : StackPair) (w : Word) : (s.setStackPair q w).iff1 = s.iff1 := by cases q <;> rfl
@[simp] theorem State.setStackPair_iff2 (s : State) (q : StackPair) (w : Word) : (s.setStackPair q w).iff2 = s.iff2 := by cases q <;> rfl
@[simp] theorem State.setStackPair_cycles (s : State) (q : StackPair) (w : Word) : (s.setStackPair q w).cycles = s.cycles := by cases q <;> rfl
@[simp] theorem State.setStackPair_mode (s : State) (q : StackPair) (w : Word) : (s.setStackPair q w).mode = s.mode := by cases q <;> rfl
@[simp] theorem State.setStackPair_debugFlag (s : State) (q : StackPair) (w : Word) : (s.setStackPair q w).debugFlag = s.debugFlag := by cases q <;> rfl
@[simp] theorem State.setStackPair_breakpoints (s : State) (q : StackPair) (w : Word) : (s.setStackPair q w).breakpoints = s.breakpoints := by cases q <;> rfl
@[simp] theorem State.setStackPair_mem (s : State) (q : StackPair) (w : Word) : (s.setStackPair q w).mem = s.mem := by cases q <;> rfl
@[simp] theorem State.setStackPair_pages (s : State) (q : StackPair) (w : Word) : (s.setStackPair q w).pages = s.pages := by cases q <;> rfl
@[simp] theorem State.setStackPair_slots (s : State) (q : StackPair) (w : Word) : (s.setStackPair q w).slots = s.slots := by cases q <;> rfl
@[simp] theorem State.setStackPair_devices (s : State) (q : StackPair) (w : Word) : (s.setStackPair q w).devices = s.devices := by cases q <;> rfl
@[simp] theorem State.setStackPair_ioIn (s : State) (q : StackPair) (w : Word) : (s.setStackPair q w).ioIn = s.ioIn := by cases q <;> rfl
@[simp] theorem State.setStackPair_ioDraws (s : State) (q : StackPair) (w : Word) : (s.setStackPair q w).ioDraws = s.ioDraws := by cases q <;> rfl
@[simp] theorem State.setStackPair_ioTrace (s : State) (q : StackPair) (w : Word) : (s.setStackPair q w).ioTrace = s.ioTrace := by cases q <;> rfl
@[simp] theorem State.setStackPair_shutdownReasons (s : State) (q : StackPair) (w : Word) : (s.setStackPair q w).shutdownReasons = s.shutdownReasons := by cases q <;> rfl
@[simp] theorem State.setStackPair_result (s : State) (q : StackPair) (w : Word) : (s.setStackPair q w).result = s.result := by cases q <;> rfl

@[simp] theorem State.setIndex_regs (s : State) (x : Index) (w : Word) : (s.setIndex x w).regs = s.regs := by cases x <;> rfl
@[simp] theorem State.setIndex_afAlt (s : State) (x : Index) (w : Word) : (s.setIndex x w).afAlt = s.afAlt := by cases x <;> rfl
@[simp] theorem State.setIndex_bcAlt (s : State) (x : Index) (w : Word) : (s.setIndex x w).bcAlt = s.bcAlt := by cases x <;> rfl
@[simp] theorem State.setIndex_deAlt (s : State) (x : Index) (w : Word) : (s.setIndex x w).deAlt = s.deAlt := by cases x <;> rfl
@[simp] theorem State.setIndex_hlAlt (s : State) (x : Index) (w : Word) : (s.setIndex x w).hlAlt = s.hlAlt := by cases x <;> rfl
@[simp] theorem State.setIndex_sp (s : State) (x : Index) (w : Word) : (s.setIndex x w).sp = s.sp := by cases x <;> rfl
@[simp] theorem State.setIndex_pc (s : State) (x : Index) (w : Word) : (s.setIndex x w).pc = s.pc := by cases x <;> rfl
@[simp] theorem State.setIndex_wz (s : State) (x : Index) (w : Word) : (s.setIndex x w).wz = s.wz := by cases x <;> rfl
@[simp] theorem State.setIndex_i (s : State) (x : Index) (w : Word) : (s.setIndex x w).i = s.i := by cases x <;> rfl
@[simp] theorem State.setIndex_r (s : State) (x : Index) (w : Word) : (s.setIndex x w).r = s.r := by cases x <;> rfl
@[simp] theorem State.setIndex_im (s : State) (x : Index) (w : Word) : (s.setIndex x w).im = s.im := by cases x <;> rfl
@[simp] theorem State.setIndex_iff1 (s : State) (x : Index) (w : Word) : (s.setIndex x w).iff1 = s.iff1 := by cases x <;> rfl
@[simp] theorem State.setIndex_iff2 (s : State) (x : Index) (w : Word) : (s.setIndex x w).iff2 = s.iff2 := by cases x <;> rfl
@[simp] theorem State.setIndex_cycles (s : State) (x : Index) (w : Word) : (s.setIndex x w).cycles = s.cycles := by cases x <;> rfl
@[simp] theorem State.setIndex_mode (s : State) (x : Index) (w : Word) : (s.setIndex x w).mode = s.mode := by cases x <;> rfl
@[simp] theorem State.setIndex_debugFlag (s : State) (x : Index) (w : Word) : (s.setIndex x w).debugFlag = s.debugFlag := by cases x <;> rfl
@[simp] theorem State.setIndex_breakpoints (s : State) (x : Index) (w : Word) : (s.setIndex x w).breakpoints = s.breakpoints := by cases x <;> rfl
@[simp] theorem State.setIndex_mem (s : State) (x : Index) (w : Word) : (s.setIndex x w).mem = s.mem := by cases x <;> rfl
@[simp] theorem State.setIndex_pages (s : State) (x : Index) (w : Word) : (s.setIndex x w).pages = s.pages := by cases x <;> rfl
@[simp] theorem State.setIndex_slots (s : State) (x : Index) (w : Word) : (s.setIndex x w).slots = s.slots := by cases x <;> rfl
@[simp] theorem State.setIndex_devices (s : State) (x : Index) (w : Word) : (s.setIndex x w).devices = s.devices := by cases x <;> rfl
@[simp] theorem State.setIndex_ioIn (s : State) (x : Index) (w : Word) : (s.setIndex x w).ioIn = s.ioIn := by cases x <;> rfl
@[simp] theorem State.setIndex_ioDraws (s : State) (x : Index) (w : Word) : (s.setIndex x w).ioDraws = s.ioDraws := by cases x <;> rfl
@[simp] theorem State.setIndex_ioTrace (s : State) (x : Index) (w : Word) : (s.setIndex x w).ioTrace = s.ioTrace := by cases x <;> rfl
@[simp] theorem State.setIndex_shutdownReasons (s : State) (x : Index) (w : Word) : (s.setIndex x w).shutdownReasons = s.shutdownReasons := by cases x <;> rfl
@[simp] theorem State.setIndex_result (s : State) (x : Index) (w : Word) : (s.setIndex x w).result = s.result := by cases x <;> rfl

@[simp] theorem State.setSpecial_regs (s : State) (q : SpecialReg) (v : Byte) : (s.setSpecial q v).regs = s.regs := by cases q <;> rfl
@[simp] theorem State.setSpecial_afAlt (s : State) (q : SpecialReg) (v : Byte) : (s.setSpecial q v).afAlt = s.afAlt := by cases q <;> rfl
@[simp] theorem State.setSpecial_bcAlt (s : State) (q : SpecialReg) (v : Byte) : (s.setSpecial q v).bcAlt = s.bcAlt := by cases q <;> rfl
@[simp] theorem State.setSpecial_deAlt (s : State) (q : SpecialReg) (v : Byte) : (s.setSpecial q v).deAlt = s.deAlt := by cases q <;> rfl
@[simp] theorem State.setSpecial_hlAlt (s : State) (q : SpecialReg) (v : Byte) : (s.setSpecial q v).hlAlt = s.hlAlt := by cases q <;> rfl
@[simp] theorem State.setSpecial_ix (s : State) (q : SpecialReg) (v : Byte) : (s.setSpecial q v).ix = s.ix := by cases q <;> rfl
@[simp] theorem State.setSpecial_iy (s : State) (q : SpecialReg) (v : Byte) : (s.setSpecial q v).iy = s.iy := by cases q <;> rfl
@[simp] theorem State.setSpecial_sp (s : State) (q : SpecialReg) (v : Byte) : (s.setSpecial q v).sp = s.sp := by cases q <;> rfl
@[simp] theorem State.setSpecial_pc (s : State) (q : SpecialReg) (v : Byte) : (s.setSpecial q v).pc = s.pc := by cases q <;> rfl
@[simp] theorem State.setSpecial_wz (s : State) (q : SpecialReg) (v : Byte) : (s.setSpecial q v).wz = s.wz := by cases q <;> rfl
@[simp] theorem State.setSpecial_im (s : State) (q : SpecialReg) (v : Byte) : (s.setSpecial q v).im = s.im := by cases q <;> rfl
@[simp] theorem State.setSpecial_iff1 (s : State) (q : SpecialReg) (v : Byte) : (s.setSpecial q v).iff1 = s.iff1 := by cases q <;> rfl
@[simp] theorem State.setSpecial_iff2 (s : State) (q : SpecialReg) (v : Byte) : (s.setSpecial q v).iff2 = s.iff2 := by cases q <;> rfl
@[simp] theorem State.setSpecial_cycles (s : State) (q : SpecialReg) (v : Byte) : (s.setSpecial q v).cycles = s.cycles := by cases q <;> rfl
@[simp] theorem State.setSpecial_mode (s : State) (q : SpecialReg) (v : Byte) : (s.setSpecial q v).mode = s.mode := by cases q <;> rfl
@[simp] theorem State.setSpecial_debugFlag (s : State) (q : SpecialReg) (v : Byte) : (s.setSpecial q v).debugFlag = s.debugFlag := by cases q <;> rfl
@[simp] theorem State.setSpecial_breakpoints (s : State) (q : SpecialReg) (v : Byte) : (s.setSpecial q v).breakpoints = s.breakpoints := by cases q <;> rfl
@[simp] theorem State.setSpecial_mem (s : State) (q : SpecialReg) (v : Byte) : (s.setSpecial q v).mem = s.mem := by cases q <;> rfl
@[simp] theorem State.setSpecial_pages (s : State) (q : SpecialReg) (v : Byte) : (s.setSpecial q v).pages = s.pages := by cases q <;> rfl
@[simp] theorem State.setSpecial_slots (s : State) (q : SpecialReg) (v : Byte) : (s.setSpecial q v).slots = s.slots := by cases q <;> rfl
@[simp] theorem State.setSpecial_devices (s : State) (q : SpecialReg) (v : Byte) : (s.setSpecial q v).devices = s.devices := by cases q <;> rfl
@[simp] theorem State.setSpecial_ioIn (s : State) (q : SpecialReg) (v : Byte) : (s.setSpecial q v).ioIn = s.ioIn := by cases q <;> rfl
@[simp] theorem State.setSpecial_ioDraws (s : State) (q : SpecialReg) (v : Byte) : (s.setSpecial q v).ioDraws = s.ioDraws := by cases q <;> rfl
@[simp] theorem State.setSpecial_ioTrace (s : State) (q : SpecialReg) (v : Byte) : (s.setSpecial q v).ioTrace = s.ioTrace := by cases q <;> rfl
@[simp] theorem State.setSpecial_shutdownReasons (s : State) (q : SpecialReg) (v : Byte) : (s.setSpecial q v).shutdownReasons = s.shutdownReasons := by cases q <;> rfl
@[simp] theorem State.setSpecial_result (s : State) (q : SpecialReg) (v : Byte) : (s.setSpecial q v).result = s.result := by cases q <;> rfl

@[simp] theorem State.copyTo_afAlt (s : State) (c : Option Reg8) (v : Byte) : (s.copyTo c v).afAlt = s.afAlt := by cases c <;> rfl
@[simp] theorem State.copyTo_bcAlt (s : State) (c : Option Reg8) (v : Byte) : (s.copyTo c v).bcAlt = s.bcAlt := by cases c <;> rfl
@[simp] theorem State.copyTo_deAlt (s : State) (c : Option Reg8) (v : Byte) : (s.copyTo c v).deAlt = s.deAlt := by cases c <;> rfl
@[simp] theorem State.copyTo_hlAlt (s : State) (c : Option Reg8) (v : Byte) : (s.copyTo c v).hlAlt = s.hlAlt := by cases c <;> rfl
@[simp] theorem State.copyTo_ix (s : State) (c : Option Reg8) (v : Byte) : (s.copyTo c v).ix = s.ix := by cases c <;> rfl
@[simp] theorem State.copyTo_iy (s : State) (c : Option Reg8) (v : Byte) : (s.copyTo c v).iy = s.iy := by cases c <;> rfl
@[simp] theorem State.copyTo_sp (s : State) (c : Option Reg8) (v : Byte) : (s.copyTo c v).sp = s.sp := by cases c <;> rfl
@[simp] theorem State.copyTo_pc (s : State) (c : Option Reg8) (v : Byte) : (s.copyTo c v).pc = s.pc := by cases c <;> rfl
@[simp] theorem State.copyTo_wz (s : State) (c : Option Reg8) (v : Byte) : (s.copyTo c v).wz = s.wz := by cases c <;> rfl
@[simp] theorem State.copyTo_i (s : State) (c : Option Reg8) (v : Byte) : (s.copyTo c v).i = s.i := by cases c <;> rfl
@[simp] theorem State.copyTo_r (s : State) (c : Option Reg8) (v : Byte) : (s.copyTo c v).r = s.r := by cases c <;> rfl
@[simp] theorem State.copyTo_im (s : State) (c : Option Reg8) (v : Byte) : (s.copyTo c v).im = s.im := by cases c <;> rfl
@[simp] theorem State.copyTo_iff1 (s : State) (c : Option Reg8) (v : Byte) : (s.copyTo c v).iff1 = s.iff1 := by cases c <;> rfl
@[simp] theorem State.copyTo_iff2 (s : State) (c : Option Reg8) (v : Byte) : (s.copyTo c v).iff2 = s.iff2 := by cases c <;> rfl
@[simp] theorem State.copyTo_cycles (s : State) (c : Option Reg8) (v : Byte) : (s.copyTo c v).cycles = s.cycles := by cases c <;> rfl
@[simp] theorem State.copyTo_mode (s : State) (c : Option Reg8) (v : Byte) : (s.copyTo c v).mode = s.mode := by cases c <;> rfl
@[simp] theorem State.copyTo_debugFlag (s : State) (c : Option Reg8) (v : Byte) : (s.copyTo c v).debugFlag = s.debugFlag := by cases c <;> rfl
@[simp] theorem State.copyTo_breakpoints (s : State) (c : Option Reg8) (v : Byte) : (s.copyTo c v).breakpoints = s.breakpoints := by cases c <;> rfl
@[simp] theorem State.copyTo_mem (s : State) (c : Option Reg8) (v : Byte) : (s.copyTo c v).mem = s.mem := by cases c <;> rfl
@[simp] theorem State.copyTo_pages (s : State) (c : Option Reg8) (v : Byte) : (s.copyTo c v).pages = s.pages := by cases c <;> rfl
@[simp] theorem State.copyTo_slots (s : State) (c : Option Reg8) (v : Byte) : (s.copyTo c v).slots = s.slots := by cases c <;> rfl
@[simp] theorem State.copyTo_devices (s : State) (c : Option Reg8) (v : Byte) : (s.copyTo c v).devices = s.devices := by cases c <;> rfl
@[simp] theorem State.copyTo_ioIn (s : State) (c : Option Reg8) (v : Byte) : (s.copyTo c v).ioIn = s.ioIn := by cases c <;> rfl
@[simp] theorem State.copyTo_ioDraws (s : State) (c : Option Reg8) (v : Byte) : (s.copyTo c v).ioDraws = s.ioDraws := by cases c <;> rfl
@[simp] theorem State.copyTo_ioTrace (s : State) (c : Option Reg8) (v : Byte) : (s.copyTo c v).ioTrace = s.ioTrace := by cases c <;> rfl
@[simp] theorem State.copyTo_shutdownReasons (s : State) (c : Option Reg8) (v : Byte) : (s.copyTo c v).shutdownReasons = s.shutdownReasons := by cases c <;> rfl
@[simp] theorem State.copyTo_result (s : State) (c : Option Reg8) (v : Byte) : (s.copyTo c v).result = s.result := by cases c <;> rfl

@[simp] theorem State.setHalf_regs (s : State) (x : Index) (h : Half) (v : Byte) : (s.setHalf x h v).regs = s.regs := by
  cases h <;> cases x <;> rfl
@[simp] theorem State.setHalf_afAlt (s : State) (x : Index) (h : Half) (v : Byte) : (s.setHalf x h v).afAlt = s.afAlt := by
  cases h <;> cases x <;> rfl
@[simp] theorem State.setHalf_bcAlt (s : State) (x : Index) (h : Half) (v : Byte) : (s.setHalf x h v).bcAlt = s.bcAlt := by
  cases h <;> cases x <;> rfl
@[simp] theorem State.setHalf_deAlt (s : State) (x : Index) (h : Half) (v : Byte) : (s.setHalf x h v).deAlt = s.deAlt := by
  cases h <;> cases x <;> rfl
@[simp] theorem State.setHalf_hlAlt (s : State) (x : Index) (h : Half) (v : Byte) : (s.setHalf x h v).hlAlt = s.hlAlt := by
  cases h <;> cases x <;> rfl
@[simp] theorem State.setHalf_sp (s : State) (x : Index) (h : Half) (v : Byte) : (s.setHalf x h v).sp = s.sp := by
  cases h <;> cases x <;> rfl
@[simp] theorem State.setHalf_pc (s : State) (x : Index) (h : Half) (v : Byte) : (s.setHalf x h v).pc = s.pc := by
  cases h <;> cases x <;> rfl
@[simp] theorem State.setHalf_wz (s : State) (x : Index) (h : Half) (v : Byte) : (s.setHalf x h v).wz = s.wz := by
  cases h <;> cases x <;> rfl
@[simp] theorem State.setHalf_i (s : State) (x : Index) (h : Half) (v : Byte) : (s.setHalf x h v).i = s.i := by
  cases h <;> cases x <;> rfl
@[simp] theorem State.setHalf_r (s : State) (x : Index) (h : Half) (v : Byte) : (s.setHalf x h v).r = s.r := by
  cases h <;> cases x <;> rfl
@[simp] theorem State.setHalf_im (s : State) (x : Index) (h : Half) (v : Byte) : (s.setHalf x h v).im = s.im := by
  cases h <;> cases x <;> rfl
@[simp] theorem State.setHalf_iff1 (s : State) (x : Index) (h : Half) (v : Byte) : (s.setHalf x h v).iff1 = s.iff1 := by
  cases h <;> cases x <;> rfl
@[simp] theorem State.setHalf_iff2 (s : State) (x : Index) (h : Half) (v : Byte) : (s.setHalf x h v).iff2 = s.iff2 := by
  cases h <;> cases x <;> rfl
@[simp] theorem State.setHalf_cycles (s : State) (x : Index) (h : Half) (v : Byte) : (s.setHalf x h v).cycles = s.cycles := by
  cases h <;> cases x <;> rfl
@[simp] theorem State.setHalf_mode (s : State) (x : Index) (h : Half) (v : Byte) : (s.setHalf x h v).mode = s.mode := by
  cases h <;> cases x <;> rfl
@[simp] theorem State.setHalf_debugFlag (s : State) (x : Index) (h : Half) (v : Byte) : (s.setHalf x h v).debugFlag = s.debugFlag := by
  cases h <;> cases x <;> rfl
@[simp] theorem State.setHalf_breakpoints (s : State) (x : Index) (h : Half) (v : Byte) : (s.setHalf x h v).breakpoints = s.breakpoints := by
  cases h <;> cases x <;> rfl
@[simp] theorem State.setHalf_mem (s : State) (x : Index) (h : Half) (v : Byte) : (s.setHalf x h v).mem = s.mem := by
  cases h <;> cases x <;> rfl
@[simp] theorem State.setHalf_pages (s : State) (x : Index) (h : Half) (v : Byte) : (s.setHalf x h v).pages = s.pages := by
  cases h <;> cases x <;> rfl
@[simp] theorem State.setHalf_slots (s : State) (x : Index) (h : Half) (v : Byte) : (s.setHalf x h v).slots = s.slots := by
  cases h <;> cases x <;> rfl
@[simp] theorem State.setHalf_devices (s : State) (x : Index) (h : Half) (v : Byte) : (s.setHalf x h v).devices = s.devices := by
  cases h <;> cases x <;> rfl
@[simp] theorem State.setHalf_ioIn (s : State) (x : Index) (h : Half) (v : Byte) : (s.setHalf x h v).ioIn = s.ioIn := by
  cases h <;> cases x <;> rfl
@[simp] theorem State.setHalf_ioDraws (s : State) (x : Index) (h : Half) (v : Byte) : (s.setHalf x h v).ioDraws = s.ioDraws := by
  cases h <;> cases x <;> rfl
@[simp] theorem State.setHalf_ioTrace (s : State) (x : Index) (h : Half) (v : Byte) : (s.setHalf x h v).ioTrace = s.ioTrace := by
  cases h <;> cases x <;> rfl
@[simp] theorem State.setHalf_shutdownReasons (s : State) (x : Index) (h : Half) (v : Byte) : (s.setHalf x h v).shutdownReasons = s.shutdownReasons := by
  cases h <;> cases x <;> rfl
@[simp] theorem State.setHalf_result (s : State) (x : Index) (h : Half) (v : Byte) : (s.setHalf x h v).result = s.result := by
  cases h <;> cases x <;> rfl

/-- The two bytes of a word make it. -/
@[simp] theorem join_hi_lo (w : Word) : join (hi w) (lo w) = w := by
  apply BitVec.eq_of_getLsbD_eq
  intro i hi'
  simp only [join, hi, lo, BitVec.getLsbD_append, BitVec.getLsbD_extractLsb']
  by_cases h : i < 8
  · simp [h]
  · have h1 : i - 8 < 8 := by omega
    have h2 : 8 + (i - 8) = i := by omega
    simp [h, h1, h2]

/-- The high byte of two bytes joined. -/
@[simp] theorem hi_join (h l : Byte) : hi (join h l) = h := by
  apply BitVec.eq_of_getLsbD_eq
  intro i hi'
  have h1 : ¬ 8 + i < 8 := by omega
  have h2 : 8 + i - 8 = i := by omega
  simp only [join, hi, BitVec.getLsbD_extractLsb', hi', decide_true, Bool.true_and]
  rw [show (h ++ l : BitVec (8 + 8)).getLsbD (8 + i) = _ from BitVec.getLsbD_append]
  simp [h1, h2]

/-- The low byte of two bytes joined. -/
@[simp] theorem lo_join (h l : Byte) : lo (join h l) = l := by
  apply BitVec.eq_of_getLsbD_eq
  intro i hi'
  simp only [join, lo, BitVec.getLsbD_extractLsb', hi', decide_true, Bool.true_and, Nat.zero_add]
  rw [show (h ++ l : BitVec (8 + 8)).getLsbD i = _ from BitVec.getLsbD_append]
  simp [hi']

/-- A register just written reads as written, and no other register changed. -/
theorem RegFile.get_set (g : RegFile) (q r : Reg8) (v : Byte) : (g.set q v).get r = if r = q then v else g.get r := by
  cases q <;> cases r <;> rfl

end Sys2Proof.Machine
end

