-- ==== Sys2Proof/Laws/Ops.lean ====
section
/-! SUPPORT. What each shared operation can do, said once. -/

namespace Sys2Proof.Machine

/-! ## One byte -/

theorem State.memRead_ok {s : State} {a : Word} (h : s.canRead a = true) : s.memRead a = .ok (s.peek a) := by
  simp [State.memRead, h]

theorem State.memRead_forbidden {s : State} {a : Word} (h : s.canRead a = false) :
    s.memRead a = .error (.badAccess s.pc a .read) := by
  simp [State.memRead, h, State.raiseBadAccess]

/-- A read that answers a byte was permitted, and answers the byte stored. -/
theorem State.memRead_eq_ok {s : State} {a : Word} {v : Byte} (h : s.memRead a = .ok v) : s.canRead a = true ∧ v = s.peek a := by
  simp only [State.memRead, State.raiseBadAccess] at h
  split at h
  · next hr => exact ⟨hr, (Except.ok.inj h).symm⟩
  · cases h

theorem State.memWrite_ok {s : State} {a : Word} {v : Byte} (h : s.canWrite a = true) : s.memWrite a v = .ok (s.poke a v) := by
  simp [State.memWrite, h]

theorem State.memWrite_forbidden {s : State} {a : Word} {v : Byte} (h : s.canWrite a = false) :
    s.memWrite a v = .error (.badAccess s.pc a .write) := by
  simp [State.memWrite, h, State.raiseBadAccess]

/-- A write that answers a state was permitted, and answers the state with the byte stored. -/
theorem State.memWrite_eq_ok {s t : State} {a : Word} {v : Byte} (h : s.memWrite a v = .ok t) :
    s.canWrite a = true ∧ t = s.poke a v := by
  simp only [State.memWrite, State.raiseBadAccess] at h
  split at h
  · next hw => exact ⟨hw, (Except.ok.inj h).symm⟩
  · cases h

/-- The attributes of an address depend on the page attributes alone. -/
theorem State.canRead_congr {s t : State} (h : t.pages = s.pages) (a : Word) : t.canRead a = s.canRead a := by
  simp [State.canRead, h]

theorem State.canWrite_congr {s t : State} (h : t.pages = s.pages) (a : Word) : t.canWrite a = s.canWrite a := by
  simp [State.canWrite, h]

@[simp] theorem State.canRead_poke (s : State) (a : Word) (v : Byte) (b : Word) : (s.poke a v).canRead b = s.canRead b := rfl

@[simp] theorem State.canWrite_poke (s : State) (a : Word) (v : Byte) (b : Word) : (s.poke a v).canWrite b = s.canWrite b := rfl

/-- A byte stored is read back. -/
theorem State.peek_poke_same {s : State} (hm : Memory.wf s.mem = true) (a : Word) (v : Byte) : (s.poke a v).peek a = v :=
  Memory.read_write_same hm _ _

/-- Storing a byte leaves every other address. -/
theorem State.peek_poke_other (s : State) {a b : Word} (v : Byte) (h : b ≠ a) : (s.poke a v).peek b = s.peek b :=
  Memory.read_write_other _ _ (fun e => h (BitVec.eq_of_toNat_eq e))

/-- Storing a byte keeps the memory's canonical form. -/
theorem State.wf_poke {s : State} (hm : Memory.wf s.mem = true) (a : Word) (v : Byte) : Memory.wf (s.poke a v).mem = true :=
  Memory.wf_write v hm (by have := a.isLt; simpa [addressCount] using this)

/-! ## Words and the stack -/

theorem State.memRead16_ok {s : State} {a : Word} (h0 : s.canRead a = true) (h1 : s.canRead (a + 1) = true) :
    s.memRead16 a = .ok (join (s.peek (a + 1)) (s.peek a)) := by
  simp only [State.memRead16, State.memRead_ok h0, State.memRead_ok h1, bind, Except.bind, pure, Except.pure]

theorem State.memWrite16_ok {s : State} {a v : Word} (h0 : s.canWrite a = true) (h1 : s.canWrite (a + 1) = true) :
    s.memWrite16 a v = .ok ((s.poke a (lo v)).poke (a + 1) (hi v)) := by
  have h2 : (s.poke a (lo v)).canWrite (a + 1) = true := h1
  simp only [State.memWrite16, State.memWrite_ok h0, State.memWrite_ok h2, bind, Except.bind]

theorem State.push16_ok {s : State} {v : Word} (h0 : s.canWrite (s.sp - 1) = true) (h1 : s.canWrite (s.sp - 2) = true) :
    s.push16 v = .ok { (s.poke (s.sp - 1) (hi v)).poke (s.sp - 2) (lo v) with sp := s.sp - 2 } := by
  have h2 : (s.poke (s.sp - 1) (hi v)).canWrite (s.sp - 2) = true := h1
  simp only [State.push16, State.memWrite_ok h0, State.memWrite_ok h2, bind, Except.bind, pure, Except.pure]

theorem State.pop16_ok {s : State} (h0 : s.canRead s.sp = true) (h1 : s.canRead (s.sp + 1) = true) :
    s.pop16 = .ok (join (s.peek (s.sp + 1)) (s.peek s.sp), { s with sp := s.sp + 2 }) := by
  simp only [State.pop16, State.memRead16_ok h0 h1, bind, Except.bind, pure, Except.pure]

/-! ## Ports -/

/-- The other half of a draw: it changes the environment's bytes and the draw count alone. -/
theorem State.draw_frame (s : State) (port : Byte) :
    (s.draw port).2 = { s with ioIn := (s.draw port).2.ioIn, ioDraws := s.ioDraws + 1 } := by
  unfold State.draw
  split <;> rfl

/-- What the console's worker does at a read, by cases: nothing while the buffer holds a byte, else what the draws say (R464). -/
theorem State.consoleArrival_full {s : State} {port : Byte} {c : Console} {v : Byte} (h : c.buffer = some v) :
    s.consoleArrival port c = (c, s) := by
  simp [State.consoleArrival, h]

theorem State.consoleArrival_arrives {s : State} {port : Byte} {c : Console} (h : c.buffer = none)
    (ha : (s.draw port).1.getLsbD 1 = true) :
    s.consoleArrival port c = ({ c with buffer := some ((s.draw port).2.draw port).1 }, ((s.draw port).2.draw port).2) := by
  simp [State.consoleArrival, h, ha]

theorem State.consoleArrival_none {s : State} {port : Byte} {c : Console} (h : c.buffer = none)
    (ha : (s.draw port).1.getLsbD 1 = false) : s.consoleArrival port c = (c, (s.draw port).2) := by
  simp only [State.consoleArrival, h, ha, Bool.false_eq_true, if_false]

/-- The arrival of input changes the environment's bytes and the draw count of the state alone. -/
theorem State.consoleArrival_frame (s : State) (port : Byte) (c : Console) :
    ∃ l n, (s.consoleArrival port c).2 = { s with ioIn := l, ioDraws := n } := by
  unfold State.consoleArrival
  split
  · exact ⟨s.ioIn, s.ioDraws, rfl⟩
  · split
    · refine ⟨((s.draw port).2.draw port).2.ioIn, (s.draw port).2.ioDraws + 1, ?_⟩
      refine (State.draw_frame (s.draw port).2 port).trans ?_
      rw [State.draw_frame s port]
    · exact ⟨_, _, State.draw_frame s port⟩

/-- The arrival of input changes the buffer of the console alone. -/
theorem State.consoleArrival_console (s : State) (port : Byte) (c : Console) :
    (s.consoleArrival port c).1 = { c with buffer := (s.consoleArrival port c).1.buffer } := by
  unfold State.consoleArrival
  split
  · rfl
  · split <;> rfl

/-- A device's read changes the devices, the environment's bytes and the draw count alone. -/
theorem State.deviceRead_frame (s : State) (port : Byte) (sl : IoSlot) :
    ∃ dev l n, (s.deviceRead port sl).2 = { s with devices := dev, ioIn := l, ioDraws := n } := by
  have hd : ∃ dev l n, (s.draw port).2 = { s with devices := dev, ioIn := l, ioDraws := n } :=
    ⟨s.devices, _, _, State.draw_frame s port⟩
  unfold State.deviceRead
  split
  · exact ⟨_, _, _, rfl⟩
  · next c _ _ =>
    obtain ⟨l, n, h⟩ := State.consoleArrival_frame s port c
    split
    · exact ⟨_, l, n, by simp only [State.consoleDataRead, h, State.setDevice]; rfl⟩
    · split
      · obtain ⟨l', n', h'⟩ : ∃ l n, ((s.consoleArrival port c).2.draw port).2 = { s with ioIn := l, ioDraws := n } :=
          ⟨((s.consoleArrival port c).2.draw port).2.ioIn, n + 1,
            (State.draw_frame (s.consoleArrival port c).2 port).trans (by rw [h])⟩
        exact ⟨_, l', n', by simp only [State.consoleStatusRead, h', State.setDevice]; rfl⟩
      · exact hd
  · exact hd
  · exact hd

/-- A read of a port changes the devices, the environment's bytes and the draw count alone. -/
theorem State.portRead_frame (s : State) (port : Byte) :
    (s.portRead port).2 = { s with
      devices := (s.portRead port).2.devices, ioIn := (s.portRead port).2.ioIn, ioDraws := (s.portRead port).2.ioDraws } := by
  unfold State.portRead
  split
  · next sl _ =>
    obtain ⟨dev, l, n, h⟩ := State.deviceRead_frame s port sl
    rw [h]
  · rw [State.draw_frame s port]

/-- A port read changes the devices, the environment's bytes, the draw count and the trace alone (R81). -/
theorem State.ioRead_frame (s : State) (port : Byte) :
    (s.ioRead port).2 = { s with
      devices := (s.ioRead port).2.devices, ioIn := (s.ioRead port).2.ioIn, ioDraws := (s.ioRead port).2.ioDraws
      ioTrace := s.ioTrace ++ [.input port (s.ioRead port).1] } := by
  simp only [State.ioRead]
  rw [State.portRead_frame s port]

/-- A device's write changes the devices alone. -/
theorem State.portWrite_frame (s : State) (port v : Byte) :
    s.portWrite port v = { s with devices := (s.portWrite port v).devices } := by
  unfold State.portWrite
  split
  · unfold State.deviceWrite
    split
    · rfl
    · split
      · rfl
      · split
        · split <;> rfl
        · rfl
    · rfl
    · rfl
  · rfl

/-- A port write changes the devices and the trace alone (R82). -/
theorem State.ioWrite_frame (s : State) (port v : Byte) :
    s.ioWrite port v = { s with devices := (s.ioWrite port v).devices, ioTrace := s.ioTrace ++ [.output port v] } := by
  simp only [State.ioWrite]
  rw [State.portWrite_frame s port v]

/-- Replacing an element keeps the length. -/
@[simp] theorem length_replaceAt {α : Type} (l : List α) (k : Nat) (x : α) : (replaceAt l k x).length = l.length := by
  induction l generalizing k with
  | nil => rfl
  | cons y rest ih => cases k <;> simp [replaceAt, ih]

/-! ## The step -/

/-- A step whose fetch answers a form is `exec` of the form's instruction. -/
theorem step_of_fetchForm {s : State} {g : Form} (h : s.fetchForm = .ok g) : step s = exec g.toInstr s := by
  simp [step, h, execForm]

/-- A step whose fetch fails is that fault. -/
theorem step_of_fetchForm_error {s : State} {f : Fault} (h : s.fetchForm = .error f) : step s = .fault f := by
  simp [step, h]

/-- An outcome that is a next state comes from an answer that is that state. -/
theorem outcome_eq_next {x : Except Fault State} {t : State} (h : outcome x = .next t) : x = .ok t := by
  cases x with
  | ok s => exact congrArg Except.ok (Host.Outcome.next.inj h)
  | error f => cases h

end Sys2Proof.Machine
end

