-- ==== Sys2Proof/Laws/PerInstr.lean ====
section
/-! SUPPORT. One lemma per instruction: every instruction is the instruction of a form, so that a claim about every
instruction follows from a claim about every form. -/

/-- The instruction is that of a form. -/
def Sys2Proof.Laws.HasForm.Statement (i : Sys2Proof.Instr) : Prop := ∃ g : Sys2Proof.Form, g.toInstr = i

namespace Sys2Proof.Laws.HasForm

theorem nop : Statement (.nop) := ⟨.nop, rfl⟩
theorem ld_BC_nn (nn : Word) : Statement (.ld_BC_nn nn) := ⟨.ldPairImm .BC nn, rfl⟩
theorem ld_atBC_A : Statement (.ld_atBC_A) := ⟨.ldIndAcc .BC, rfl⟩
theorem inc_BC : Statement (.inc_BC) := ⟨.incPair .BC, rfl⟩
theorem inc_B : Statement (.inc_B) := ⟨.incReg .B, rfl⟩
theorem dec_B : Statement (.dec_B) := ⟨.decReg .B, rfl⟩
theorem ld_B_n (n : Byte) : Statement (.ld_B_n n) := ⟨.ldRegImm .B n, rfl⟩
theorem rlca : Statement (.rlca) := ⟨.accRot .rlca, rfl⟩
theorem ex_AF_AFalt : Statement (.ex_AF_AFalt) := ⟨.exAf, rfl⟩
theorem add_HL_BC : Statement (.add_HL_BC) := ⟨.addHl .BC, rfl⟩
theorem ld_A_atBC : Statement (.ld_A_atBC) := ⟨.ldAccInd .BC, rfl⟩
theorem dec_BC : Statement (.dec_BC) := ⟨.decPair .BC, rfl⟩
theorem inc_C : Statement (.inc_C) := ⟨.incReg .C, rfl⟩
theorem dec_C : Statement (.dec_C) := ⟨.decReg .C, rfl⟩
theorem ld_C_n (n : Byte) : Statement (.ld_C_n n) := ⟨.ldRegImm .C n, rfl⟩
theorem rrca : Statement (.rrca) := ⟨.accRot .rrca, rfl⟩
theorem djnz_e (e : Byte) : Statement (.djnz_e e) := ⟨.djnz e, rfl⟩
theorem ld_DE_nn (nn : Word) : Statement (.ld_DE_nn nn) := ⟨.ldPairImm .DE nn, rfl⟩
theorem ld_atDE_A : Statement (.ld_atDE_A) := ⟨.ldIndAcc .DE, rfl⟩
theorem inc_DE : Statement (.inc_DE) := ⟨.incPair .DE, rfl⟩
theorem inc_D : Statement (.inc_D) := ⟨.incReg .D, rfl⟩
theorem dec_D : Statement (.dec_D) := ⟨.decReg .D, rfl⟩
theorem ld_D_n (n : Byte) : Statement (.ld_D_n n) := ⟨.ldRegImm .D n, rfl⟩
theorem rla : Statement (.rla) := ⟨.accRot .rla, rfl⟩
theorem jr_e (e : Byte) : Statement (.jr_e e) := ⟨.jr e, rfl⟩
theorem add_HL_DE : Statement (.add_HL_DE) := ⟨.addHl .DE, rfl⟩
theorem ld_A_atDE : Statement (.ld_A_atDE) := ⟨.ldAccInd .DE, rfl⟩
theorem dec_DE : Statement (.dec_DE) := ⟨.decPair .DE, rfl⟩
theorem inc_E : Statement (.inc_E) := ⟨.incReg .E, rfl⟩
theorem dec_E : Statement (.dec_E) := ⟨.decReg .E, rfl⟩
theorem ld_E_n (n : Byte) : Statement (.ld_E_n n) := ⟨.ldRegImm .E n, rfl⟩
theorem rra : Statement (.rra) := ⟨.accRot .rra, rfl⟩
theorem jr_NZ_e (e : Byte) : Statement (.jr_NZ_e e) := ⟨.jrCond .NZ e, rfl⟩
theorem ld_HL_nn (nn : Word) : Statement (.ld_HL_nn nn) := ⟨.ldPairImm .HL nn, rfl⟩
theorem ld_atnn_HL (nn : Word) : Statement (.ld_atnn_HL nn) := ⟨.ldAbsHl nn, rfl⟩
theorem inc_HL : Statement (.inc_HL) := ⟨.incPair .HL, rfl⟩
theorem inc_H : Statement (.inc_H) := ⟨.incReg .H, rfl⟩
theorem dec_H : Statement (.dec_H) := ⟨.decReg .H, rfl⟩
theorem ld_H_n (n : Byte) : Statement (.ld_H_n n) := ⟨.ldRegImm .H n, rfl⟩
theorem daa : Statement (.daa) := ⟨.daa, rfl⟩
theorem jr_Z_e (e : Byte) : Statement (.jr_Z_e e) := ⟨.jrCond .Z e, rfl⟩
theorem add_HL_HL : Statement (.add_HL_HL) := ⟨.addHl .HL, rfl⟩
theorem ld_HL_atnn (nn : Word) : Statement (.ld_HL_atnn nn) := ⟨.ldHlAbs nn, rfl⟩
theorem dec_HL : Statement (.dec_HL) := ⟨.decPair .HL, rfl⟩
theorem inc_L : Statement (.inc_L) := ⟨.incReg .L, rfl⟩
theorem dec_L : Statement (.dec_L) := ⟨.decReg .L, rfl⟩
theorem ld_L_n (n : Byte) : Statement (.ld_L_n n) := ⟨.ldRegImm .L n, rfl⟩
theorem cpl : Statement (.cpl) := ⟨.cpl, rfl⟩
theorem jr_NC_e (e : Byte) : Statement (.jr_NC_e e) := ⟨.jrCond .NC e, rfl⟩
theorem ld_SP_nn (nn : Word) : Statement (.ld_SP_nn nn) := ⟨.ldPairImm .SP nn, rfl⟩
theorem ld_atnn_A (nn : Word) : Statement (.ld_atnn_A nn) := ⟨.ldAbsAcc nn, rfl⟩
theorem inc_SP : Statement (.inc_SP) := ⟨.incPair .SP, rfl⟩
theorem inc_atHL : Statement (.inc_atHL) := ⟨.incMem, rfl⟩
theorem dec_atHL : Statement (.dec_atHL) := ⟨.decMem, rfl⟩
theorem ld_atHL_n (n : Byte) : Statement (.ld_atHL_n n) := ⟨.ldMemImm n, rfl⟩
theorem scf : Statement (.scf) := ⟨.scf, rfl⟩
theorem jr_C_e (e : Byte) : Statement (.jr_C_e e) := ⟨.jrCond .C e, rfl⟩
theorem add_HL_SP : Statement (.add_HL_SP) := ⟨.addHl .SP, rfl⟩
theorem ld_A_atnn (nn : Word) : Statement (.ld_A_atnn nn) := ⟨.ldAccAbs nn, rfl⟩
theorem dec_SP : Statement (.dec_SP) := ⟨.decPair .SP, rfl⟩
theorem inc_A : Statement (.inc_A) := ⟨.incReg .A, rfl⟩
theorem dec_A : Statement (.dec_A) := ⟨.decReg .A, rfl⟩
theorem ld_A_n (n : Byte) : Statement (.ld_A_n n) := ⟨.ldRegImm .A n, rfl⟩
theorem ccf : Statement (.ccf) := ⟨.ccf, rfl⟩
theorem ld_B_B : Statement (.ld_B_B) := ⟨.ldRegReg .B .B, rfl⟩
theorem ld_B_C : Statement (.ld_B_C) := ⟨.ldRegReg .B .C, rfl⟩
theorem ld_B_D : Statement (.ld_B_D) := ⟨.ldRegReg .B .D, rfl⟩
theorem ld_B_E : Statement (.ld_B_E) := ⟨.ldRegReg .B .E, rfl⟩
theorem ld_B_H : Statement (.ld_B_H) := ⟨.ldRegReg .B .H, rfl⟩
theorem ld_B_L : Statement (.ld_B_L) := ⟨.ldRegReg .B .L, rfl⟩
theorem ld_B_atHL : Statement (.ld_B_atHL) := ⟨.ldRegMem .B, rfl⟩
theorem ld_B_A : Statement (.ld_B_A) := ⟨.ldRegReg .B .A, rfl⟩
theorem ld_C_B : Statement (.ld_C_B) := ⟨.ldRegReg .C .B, rfl⟩
theorem ld_C_C : Statement (.ld_C_C) := ⟨.ldRegReg .C .C, rfl⟩
theorem ld_C_D : Statement (.ld_C_D) := ⟨.ldRegReg .C .D, rfl⟩
theorem ld_C_E : Statement (.ld_C_E) := ⟨.ldRegReg .C .E, rfl⟩
theorem ld_C_H : Statement (.ld_C_H) := ⟨.ldRegReg .C .H, rfl⟩
theorem ld_C_L : Statement (.ld_C_L) := ⟨.ldRegReg .C .L, rfl⟩
theorem ld_C_atHL : Statement (.ld_C_atHL) := ⟨.ldRegMem .C, rfl⟩
theorem ld_C_A : Statement (.ld_C_A) := ⟨.ldRegReg .C .A, rfl⟩
theorem ld_D_B : Statement (.ld_D_B) := ⟨.ldRegReg .D .B, rfl⟩
theorem ld_D_C : Statement (.ld_D_C) := ⟨.ldRegReg .D .C, rfl⟩
theorem ld_D_D : Statement (.ld_D_D) := ⟨.ldRegReg .D .D, rfl⟩
theorem ld_D_E : Statement (.ld_D_E) := ⟨.ldRegReg .D .E, rfl⟩
theorem ld_D_H : Statement (.ld_D_H) := ⟨.ldRegReg .D .H, rfl⟩
theorem ld_D_L : Statement (.ld_D_L) := ⟨.ldRegReg .D .L, rfl⟩
theorem ld_D_atHL : Statement (.ld_D_atHL) := ⟨.ldRegMem .D, rfl⟩
theorem ld_D_A : Statement (.ld_D_A) := ⟨.ldRegReg .D .A, rfl⟩
theorem ld_E_B : Statement (.ld_E_B) := ⟨.ldRegReg .E .B, rfl⟩
theorem ld_E_C : Statement (.ld_E_C) := ⟨.ldRegReg .E .C, rfl⟩
theorem ld_E_D : Statement (.ld_E_D) := ⟨.ldRegReg .E .D, rfl⟩
theorem ld_E_E : Statement (.ld_E_E) := ⟨.ldRegReg .E .E, rfl⟩
theorem ld_E_H : Statement (.ld_E_H) := ⟨.ldRegReg .E .H, rfl⟩
theorem ld_E_L : Statement (.ld_E_L) := ⟨.ldRegReg .E .L, rfl⟩
theorem ld_E_atHL : Statement (.ld_E_atHL) := ⟨.ldRegMem .E, rfl⟩
theorem ld_E_A : Statement (.ld_E_A) := ⟨.ldRegReg .E .A, rfl⟩
theorem ld_H_B : Statement (.ld_H_B) := ⟨.ldRegReg .H .B, rfl⟩
theorem ld_H_C : Statement (.ld_H_C) := ⟨.ldRegReg .H .C, rfl⟩
theorem ld_H_D : Statement (.ld_H_D) := ⟨.ldRegReg .H .D, rfl⟩
theorem ld_H_E : Statement (.ld_H_E) := ⟨.ldRegReg .H .E, rfl⟩
theorem ld_H_H : Statement (.ld_H_H) := ⟨.ldRegReg .H .H, rfl⟩
theorem ld_H_L : Statement (.ld_H_L) := ⟨.ldRegReg .H .L, rfl⟩
theorem ld_H_atHL : Statement (.ld_H_atHL) := ⟨.ldRegMem .H, rfl⟩
theorem ld_H_A : Statement (.ld_H_A) := ⟨.ldRegReg .H .A, rfl⟩
theorem ld_L_B : Statement (.ld_L_B) := ⟨.ldRegReg .L .B, rfl⟩
theorem ld_L_C : Statement (.ld_L_C) := ⟨.ldRegReg .L .C, rfl⟩
theorem ld_L_D : Statement (.ld_L_D) := ⟨.ldRegReg .L .D, rfl⟩
theorem ld_L_E : Statement (.ld_L_E) := ⟨.ldRegReg .L .E, rfl⟩
theorem ld_L_H : Statement (.ld_L_H) := ⟨.ldRegReg .L .H, rfl⟩
theorem ld_L_L : Statement (.ld_L_L) := ⟨.ldRegReg .L .L, rfl⟩
theorem ld_L_atHL : Statement (.ld_L_atHL) := ⟨.ldRegMem .L, rfl⟩
theorem ld_L_A : Statement (.ld_L_A) := ⟨.ldRegReg .L .A, rfl⟩
theorem ld_atHL_B : Statement (.ld_atHL_B) := ⟨.ldMemReg .B, rfl⟩
theorem ld_atHL_C : Statement (.ld_atHL_C) := ⟨.ldMemReg .C, rfl⟩
theorem ld_atHL_D : Statement (.ld_atHL_D) := ⟨.ldMemReg .D, rfl⟩
theorem ld_atHL_E : Statement (.ld_atHL_E) := ⟨.ldMemReg .E, rfl⟩
theorem ld_atHL_H : Statement (.ld_atHL_H) := ⟨.ldMemReg .H, rfl⟩
theorem ld_atHL_L : Statement (.ld_atHL_L) := ⟨.ldMemReg .L, rfl⟩
theorem halt : Statement (.halt) := ⟨.halt, rfl⟩
theorem ld_atHL_A : Statement (.ld_atHL_A) := ⟨.ldMemReg .A, rfl⟩
theorem ld_A_B : Statement (.ld_A_B) := ⟨.ldRegReg .A .B, rfl⟩
theorem ld_A_C : Statement (.ld_A_C) := ⟨.ldRegReg .A .C, rfl⟩
theorem ld_A_D : Statement (.ld_A_D) := ⟨.ldRegReg .A .D, rfl⟩
theorem ld_A_E : Statement (.ld_A_E) := ⟨.ldRegReg .A .E, rfl⟩
theorem ld_A_H : Statement (.ld_A_H) := ⟨.ldRegReg .A .H, rfl⟩
theorem ld_A_L : Statement (.ld_A_L) := ⟨.ldRegReg .A .L, rfl⟩
theorem ld_A_atHL : Statement (.ld_A_atHL) := ⟨.ldRegMem .A, rfl⟩
theorem ld_A_A : Statement (.ld_A_A) := ⟨.ldRegReg .A .A, rfl⟩
theorem add_A_B : Statement (.add_A_B) := ⟨.aluReg .add .B, rfl⟩
theorem add_A_C : Statement (.add_A_C) := ⟨.aluReg .add .C, rfl⟩
theorem add_A_D : Statement (.add_A_D) := ⟨.aluReg .add .D, rfl⟩
theorem add_A_E : Statement (.add_A_E) := ⟨.aluReg .add .E, rfl⟩
theorem add_A_H : Statement (.add_A_H) := ⟨.aluReg .add .H, rfl⟩
theorem add_A_L : Statement (.add_A_L) := ⟨.aluReg .add .L, rfl⟩
theorem add_A_atHL : Statement (.add_A_atHL) := ⟨.aluMem .add, rfl⟩
theorem add_A_A : Statement (.add_A_A) := ⟨.aluReg .add .A, rfl⟩
theorem adc_A_B : Statement (.adc_A_B) := ⟨.aluReg .adc .B, rfl⟩
theorem adc_A_C : Statement (.adc_A_C) := ⟨.aluReg .adc .C, rfl⟩
theorem adc_A_D : Statement (.adc_A_D) := ⟨.aluReg .adc .D, rfl⟩
theorem adc_A_E : Statement (.adc_A_E) := ⟨.aluReg .adc .E, rfl⟩
theorem adc_A_H : Statement (.adc_A_H) := ⟨.aluReg .adc .H, rfl⟩
theorem adc_A_L : Statement (.adc_A_L) := ⟨.aluReg .adc .L, rfl⟩
theorem adc_A_atHL : Statement (.adc_A_atHL) := ⟨.aluMem .adc, rfl⟩
theorem adc_A_A : Statement (.adc_A_A) := ⟨.aluReg .adc .A, rfl⟩
theorem sub_B : Statement (.sub_B) := ⟨.aluReg .sub .B, rfl⟩
theorem sub_C : Statement (.sub_C) := ⟨.aluReg .sub .C, rfl⟩
theorem sub_D : Statement (.sub_D) := ⟨.aluReg .sub .D, rfl⟩
theorem sub_E : Statement (.sub_E) := ⟨.aluReg .sub .E, rfl⟩
theorem sub_H : Statement (.sub_H) := ⟨.aluReg .sub .H, rfl⟩
theorem sub_L : Statement (.sub_L) := ⟨.aluReg .sub .L, rfl⟩
theorem sub_atHL : Statement (.sub_atHL) := ⟨.aluMem .sub, rfl⟩
theorem sub_A : Statement (.sub_A) := ⟨.aluReg .sub .A, rfl⟩
theorem sbc_A_B : Statement (.sbc_A_B) := ⟨.aluReg .sbc .B, rfl⟩
theorem sbc_A_C : Statement (.sbc_A_C) := ⟨.aluReg .sbc .C, rfl⟩
theorem sbc_A_D : Statement (.sbc_A_D) := ⟨.aluReg .sbc .D, rfl⟩
theorem sbc_A_E : Statement (.sbc_A_E) := ⟨.aluReg .sbc .E, rfl⟩
theorem sbc_A_H : Statement (.sbc_A_H) := ⟨.aluReg .sbc .H, rfl⟩
theorem sbc_A_L : Statement (.sbc_A_L) := ⟨.aluReg .sbc .L, rfl⟩
theorem sbc_A_atHL : Statement (.sbc_A_atHL) := ⟨.aluMem .sbc, rfl⟩
theorem sbc_A_A : Statement (.sbc_A_A) := ⟨.aluReg .sbc .A, rfl⟩
theorem and_B : Statement (.and_B) := ⟨.aluReg .and .B, rfl⟩
theorem and_C : Statement (.and_C) := ⟨.aluReg .and .C, rfl⟩
theorem and_D : Statement (.and_D) := ⟨.aluReg .and .D, rfl⟩
theorem and_E : Statement (.and_E) := ⟨.aluReg .and .E, rfl⟩
theorem and_H : Statement (.and_H) := ⟨.aluReg .and .H, rfl⟩
theorem and_L : Statement (.and_L) := ⟨.aluReg .and .L, rfl⟩
theorem and_atHL : Statement (.and_atHL) := ⟨.aluMem .and, rfl⟩
theorem and_A : Statement (.and_A) := ⟨.aluReg .and .A, rfl⟩
theorem xor_B : Statement (.xor_B) := ⟨.aluReg .xor .B, rfl⟩
theorem xor_C : Statement (.xor_C) := ⟨.aluReg .xor .C, rfl⟩
theorem xor_D : Statement (.xor_D) := ⟨.aluReg .xor .D, rfl⟩
theorem xor_E : Statement (.xor_E) := ⟨.aluReg .xor .E, rfl⟩
theorem xor_H : Statement (.xor_H) := ⟨.aluReg .xor .H, rfl⟩
theorem xor_L : Statement (.xor_L) := ⟨.aluReg .xor .L, rfl⟩
theorem xor_atHL : Statement (.xor_atHL) := ⟨.aluMem .xor, rfl⟩
theorem xor_A : Statement (.xor_A) := ⟨.aluReg .xor .A, rfl⟩
theorem or_B : Statement (.or_B) := ⟨.aluReg .or .B, rfl⟩
theorem or_C : Statement (.or_C) := ⟨.aluReg .or .C, rfl⟩
theorem or_D : Statement (.or_D) := ⟨.aluReg .or .D, rfl⟩
theorem or_E : Statement (.or_E) := ⟨.aluReg .or .E, rfl⟩
theorem or_H : Statement (.or_H) := ⟨.aluReg .or .H, rfl⟩
theorem or_L : Statement (.or_L) := ⟨.aluReg .or .L, rfl⟩
theorem or_atHL : Statement (.or_atHL) := ⟨.aluMem .or, rfl⟩
theorem or_A : Statement (.or_A) := ⟨.aluReg .or .A, rfl⟩
theorem cp_B : Statement (.cp_B) := ⟨.aluReg .cp .B, rfl⟩
theorem cp_C : Statement (.cp_C) := ⟨.aluReg .cp .C, rfl⟩
theorem cp_D : Statement (.cp_D) := ⟨.aluReg .cp .D, rfl⟩
theorem cp_E : Statement (.cp_E) := ⟨.aluReg .cp .E, rfl⟩
theorem cp_H : Statement (.cp_H) := ⟨.aluReg .cp .H, rfl⟩
theorem cp_L : Statement (.cp_L) := ⟨.aluReg .cp .L, rfl⟩
theorem cp_atHL : Statement (.cp_atHL) := ⟨.aluMem .cp, rfl⟩
theorem cp_A : Statement (.cp_A) := ⟨.aluReg .cp .A, rfl⟩
theorem ret_NZ : Statement (.ret_NZ) := ⟨.retCond .NZ, rfl⟩
theorem pop_BC : Statement (.pop_BC) := ⟨.popPair .BC, rfl⟩
theorem jp_NZ_nn (nn : Word) : Statement (.jp_NZ_nn nn) := ⟨.jpCond .NZ nn, rfl⟩
theorem jp_nn (nn : Word) : Statement (.jp_nn nn) := ⟨.jp nn, rfl⟩
theorem call_NZ_nn (nn : Word) : Statement (.call_NZ_nn nn) := ⟨.callCond .NZ nn, rfl⟩
theorem push_BC : Statement (.push_BC) := ⟨.pushPair .BC, rfl⟩
theorem add_A_n (n : Byte) : Statement (.add_A_n n) := ⟨.aluImm .add n, rfl⟩
theorem rst_00H : Statement (.rst_00H) := ⟨.rst .t00, rfl⟩
theorem ret_Z : Statement (.ret_Z) := ⟨.retCond .Z, rfl⟩
theorem ret : Statement (.ret) := ⟨.ret, rfl⟩
theorem jp_Z_nn (nn : Word) : Statement (.jp_Z_nn nn) := ⟨.jpCond .Z nn, rfl⟩
theorem call_Z_nn (nn : Word) : Statement (.call_Z_nn nn) := ⟨.callCond .Z nn, rfl⟩
theorem call_nn (nn : Word) : Statement (.call_nn nn) := ⟨.call nn, rfl⟩
theorem adc_A_n (n : Byte) : Statement (.adc_A_n n) := ⟨.aluImm .adc n, rfl⟩
theorem rst_08H : Statement (.rst_08H) := ⟨.rst .t08, rfl⟩
theorem ret_NC : Statement (.ret_NC) := ⟨.retCond .NC, rfl⟩
theorem pop_DE : Statement (.pop_DE) := ⟨.popPair .DE, rfl⟩
theorem jp_NC_nn (nn : Word) : Statement (.jp_NC_nn nn) := ⟨.jpCond .NC nn, rfl⟩
theorem out_atn_A (n : Byte) : Statement (.out_atn_A n) := ⟨.outAcc n, rfl⟩
theorem call_NC_nn (nn : Word) : Statement (.call_NC_nn nn) := ⟨.callCond .NC nn, rfl⟩
theorem push_DE : Statement (.push_DE) := ⟨.pushPair .DE, rfl⟩
theorem sub_n (n : Byte) : Statement (.sub_n n) := ⟨.aluImm .sub n, rfl⟩
theorem rst_10H : Statement (.rst_10H) := ⟨.rst .t10, rfl⟩
theorem ret_C : Statement (.ret_C) := ⟨.retCond .C, rfl⟩
theorem exx : Statement (.exx) := ⟨.exx, rfl⟩
theorem jp_C_nn (nn : Word) : Statement (.jp_C_nn nn) := ⟨.jpCond .C nn, rfl⟩
theorem in_A_atn (n : Byte) : Statement (.in_A_atn n) := ⟨.inAcc n, rfl⟩
theorem call_C_nn (nn : Word) : Statement (.call_C_nn nn) := ⟨.callCond .C nn, rfl⟩
theorem sbc_A_n (n : Byte) : Statement (.sbc_A_n n) := ⟨.aluImm .sbc n, rfl⟩
theorem rst_18H : Statement (.rst_18H) := ⟨.rst .t18, rfl⟩
theorem ret_PO : Statement (.ret_PO) := ⟨.retCond .PO, rfl⟩
theorem pop_HL : Statement (.pop_HL) := ⟨.popPair .HL, rfl⟩
theorem jp_PO_nn (nn : Word) : Statement (.jp_PO_nn nn) := ⟨.jpCond .PO nn, rfl⟩
theorem ex_atSP_HL : Statement (.ex_atSP_HL) := ⟨.exSpHl, rfl⟩
theorem call_PO_nn (nn : Word) : Statement (.call_PO_nn nn) := ⟨.callCond .PO nn, rfl⟩
theorem push_HL : Statement (.push_HL) := ⟨.pushPair .HL, rfl⟩
theorem and_n (n : Byte) : Statement (.and_n n) := ⟨.aluImm .and n, rfl⟩
theorem rst_20H : Statement (.rst_20H) := ⟨.rst .t20, rfl⟩
theorem ret_PE : Statement (.ret_PE) := ⟨.retCond .PE, rfl⟩
theorem jp_atHL : Statement (.jp_atHL) := ⟨.jpHl, rfl⟩
theorem jp_PE_nn (nn : Word) : Statement (.jp_PE_nn nn) := ⟨.jpCond .PE nn, rfl⟩
theorem ex_DE_HL : Statement (.ex_DE_HL) := ⟨.exDeHl, rfl⟩
theorem call_PE_nn (nn : Word) : Statement (.call_PE_nn nn) := ⟨.callCond .PE nn, rfl⟩
theorem xor_n (n : Byte) : Statement (.xor_n n) := ⟨.aluImm .xor n, rfl⟩
theorem rst_28H : Statement (.rst_28H) := ⟨.rst .t28, rfl⟩
theorem ret_P : Statement (.ret_P) := ⟨.retCond .P, rfl⟩
theorem pop_AF : Statement (.pop_AF) := ⟨.popPair .AF, rfl⟩
theorem jp_P_nn (nn : Word) : Statement (.jp_P_nn nn) := ⟨.jpCond .P nn, rfl⟩
theorem di : Statement (.di) := ⟨.di, rfl⟩
theorem call_P_nn (nn : Word) : Statement (.call_P_nn nn) := ⟨.callCond .P nn, rfl⟩
theorem push_AF : Statement (.push_AF) := ⟨.pushPair .AF, rfl⟩
theorem or_n (n : Byte) : Statement (.or_n n) := ⟨.aluImm .or n, rfl⟩
theorem rst_30H : Statement (.rst_30H) := ⟨.rst .t30, rfl⟩
theorem ret_M : Statement (.ret_M) := ⟨.retCond .M, rfl⟩
theorem ld_SP_HL : Statement (.ld_SP_HL) := ⟨.ldSpHl, rfl⟩
theorem jp_M_nn (nn : Word) : Statement (.jp_M_nn nn) := ⟨.jpCond .M nn, rfl⟩
theorem ei : Statement (.ei) := ⟨.ei, rfl⟩
theorem call_M_nn (nn : Word) : Statement (.call_M_nn nn) := ⟨.callCond .M nn, rfl⟩
theorem cp_n (n : Byte) : Statement (.cp_n n) := ⟨.aluImm .cp n, rfl⟩
theorem rst_38H : Statement (.rst_38H) := ⟨.rst .t38, rfl⟩
theorem rlc_B : Statement (.rlc_B) := ⟨.rotReg .rlc .B, rfl⟩
theorem rlc_C : Statement (.rlc_C) := ⟨.rotReg .rlc .C, rfl⟩
theorem rlc_D : Statement (.rlc_D) := ⟨.rotReg .rlc .D, rfl⟩
theorem rlc_E : Statement (.rlc_E) := ⟨.rotReg .rlc .E, rfl⟩
theorem rlc_H : Statement (.rlc_H) := ⟨.rotReg .rlc .H, rfl⟩
theorem rlc_L : Statement (.rlc_L) := ⟨.rotReg .rlc .L, rfl⟩
theorem rlc_atHL : Statement (.rlc_atHL) := ⟨.rotMem .rlc, rfl⟩
theorem rlc_A : Statement (.rlc_A) := ⟨.rotReg .rlc .A, rfl⟩
theorem rrc_B : Statement (.rrc_B) := ⟨.rotReg .rrc .B, rfl⟩
theorem rrc_C : Statement (.rrc_C) := ⟨.rotReg .rrc .C, rfl⟩
theorem rrc_D : Statement (.rrc_D) := ⟨.rotReg .rrc .D, rfl⟩
theorem rrc_E : Statement (.rrc_E) := ⟨.rotReg .rrc .E, rfl⟩
theorem rrc_H : Statement (.rrc_H) := ⟨.rotReg .rrc .H, rfl⟩
theorem rrc_L : Statement (.rrc_L) := ⟨.rotReg .rrc .L, rfl⟩
theorem rrc_atHL : Statement (.rrc_atHL) := ⟨.rotMem .rrc, rfl⟩
theorem rrc_A : Statement (.rrc_A) := ⟨.rotReg .rrc .A, rfl⟩
theorem rl_B : Statement (.rl_B) := ⟨.rotReg .rl .B, rfl⟩
theorem rl_C : Statement (.rl_C) := ⟨.rotReg .rl .C, rfl⟩
theorem rl_D : Statement (.rl_D) := ⟨.rotReg .rl .D, rfl⟩
theorem rl_E : Statement (.rl_E) := ⟨.rotReg .rl .E, rfl⟩
theorem rl_H : Statement (.rl_H) := ⟨.rotReg .rl .H, rfl⟩
theorem rl_L : Statement (.rl_L) := ⟨.rotReg .rl .L, rfl⟩
theorem rl_atHL : Statement (.rl_atHL) := ⟨.rotMem .rl, rfl⟩
theorem rl_A : Statement (.rl_A) := ⟨.rotReg .rl .A, rfl⟩
theorem rr_B : Statement (.rr_B) := ⟨.rotReg .rr .B, rfl⟩
theorem rr_C : Statement (.rr_C) := ⟨.rotReg .rr .C, rfl⟩
theorem rr_D : Statement (.rr_D) := ⟨.rotReg .rr .D, rfl⟩
theorem rr_E : Statement (.rr_E) := ⟨.rotReg .rr .E, rfl⟩
theorem rr_H : Statement (.rr_H) := ⟨.rotReg .rr .H, rfl⟩
theorem rr_L : Statement (.rr_L) := ⟨.rotReg .rr .L, rfl⟩
theorem rr_atHL : Statement (.rr_atHL) := ⟨.rotMem .rr, rfl⟩
theorem rr_A : Statement (.rr_A) := ⟨.rotReg .rr .A, rfl⟩
theorem sla_B : Statement (.sla_B) := ⟨.rotReg .sla .B, rfl⟩
theorem sla_C : Statement (.sla_C) := ⟨.rotReg .sla .C, rfl⟩
theorem sla_D : Statement (.sla_D) := ⟨.rotReg .sla .D, rfl⟩
theorem sla_E : Statement (.sla_E) := ⟨.rotReg .sla .E, rfl⟩
theorem sla_H : Statement (.sla_H) := ⟨.rotReg .sla .H, rfl⟩
theorem sla_L : Statement (.sla_L) := ⟨.rotReg .sla .L, rfl⟩
theorem sla_atHL : Statement (.sla_atHL) := ⟨.rotMem .sla, rfl⟩
theorem sla_A : Statement (.sla_A) := ⟨.rotReg .sla .A, rfl⟩
theorem sra_B : Statement (.sra_B) := ⟨.rotReg .sra .B, rfl⟩
theorem sra_C : Statement (.sra_C) := ⟨.rotReg .sra .C, rfl⟩
theorem sra_D : Statement (.sra_D) := ⟨.rotReg .sra .D, rfl⟩
theorem sra_E : Statement (.sra_E) := ⟨.rotReg .sra .E, rfl⟩
theorem sra_H : Statement (.sra_H) := ⟨.rotReg .sra .H, rfl⟩
theorem sra_L : Statement (.sra_L) := ⟨.rotReg .sra .L, rfl⟩
theorem sra_atHL : Statement (.sra_atHL) := ⟨.rotMem .sra, rfl⟩
theorem sra_A : Statement (.sra_A) := ⟨.rotReg .sra .A, rfl⟩
theorem sll_B : Statement (.sll_B) := ⟨.rotReg .sll .B, rfl⟩
theorem sll_C : Statement (.sll_C) := ⟨.rotReg .sll .C, rfl⟩
theorem sll_D : Statement (.sll_D) := ⟨.rotReg .sll .D, rfl⟩
theorem sll_E : Statement (.sll_E) := ⟨.rotReg .sll .E, rfl⟩
theorem sll_H : Statement (.sll_H) := ⟨.rotReg .sll .H, rfl⟩
theorem sll_L : Statement (.sll_L) := ⟨.rotReg .sll .L, rfl⟩
theorem sll_atHL : Statement (.sll_atHL) := ⟨.rotMem .sll, rfl⟩
theorem sll_A : Statement (.sll_A) := ⟨.rotReg .sll .A, rfl⟩
theorem srl_B : Statement (.srl_B) := ⟨.rotReg .srl .B, rfl⟩
theorem srl_C : Statement (.srl_C) := ⟨.rotReg .srl .C, rfl⟩
theorem srl_D : Statement (.srl_D) := ⟨.rotReg .srl .D, rfl⟩
theorem srl_E : Statement (.srl_E) := ⟨.rotReg .srl .E, rfl⟩
theorem srl_H : Statement (.srl_H) := ⟨.rotReg .srl .H, rfl⟩
theorem srl_L : Statement (.srl_L) := ⟨.rotReg .srl .L, rfl⟩
theorem srl_atHL : Statement (.srl_atHL) := ⟨.rotMem .srl, rfl⟩
theorem srl_A : Statement (.srl_A) := ⟨.rotReg .srl .A, rfl⟩
theorem bit_0_B : Statement (.bit_0_B) := ⟨.bitReg .b0 .B, rfl⟩
theorem bit_0_C : Statement (.bit_0_C) := ⟨.bitReg .b0 .C, rfl⟩
theorem bit_0_D : Statement (.bit_0_D) := ⟨.bitReg .b0 .D, rfl⟩
theorem bit_0_E : Statement (.bit_0_E) := ⟨.bitReg .b0 .E, rfl⟩
theorem bit_0_H : Statement (.bit_0_H) := ⟨.bitReg .b0 .H, rfl⟩
theorem bit_0_L : Statement (.bit_0_L) := ⟨.bitReg .b0 .L, rfl⟩
theorem bit_0_atHL : Statement (.bit_0_atHL) := ⟨.bitMem .b0, rfl⟩
theorem bit_0_A : Statement (.bit_0_A) := ⟨.bitReg .b0 .A, rfl⟩
theorem bit_1_B : Statement (.bit_1_B) := ⟨.bitReg .b1 .B, rfl⟩
theorem bit_1_C : Statement (.bit_1_C) := ⟨.bitReg .b1 .C, rfl⟩
theorem bit_1_D : Statement (.bit_1_D) := ⟨.bitReg .b1 .D, rfl⟩
theorem bit_1_E : Statement (.bit_1_E) := ⟨.bitReg .b1 .E, rfl⟩
theorem bit_1_H : Statement (.bit_1_H) := ⟨.bitReg .b1 .H, rfl⟩
theorem bit_1_L : Statement (.bit_1_L) := ⟨.bitReg .b1 .L, rfl⟩
theorem bit_1_atHL : Statement (.bit_1_atHL) := ⟨.bitMem .b1, rfl⟩
theorem bit_1_A : Statement (.bit_1_A) := ⟨.bitReg .b1 .A, rfl⟩
theorem bit_2_B : Statement (.bit_2_B) := ⟨.bitReg .b2 .B, rfl⟩
theorem bit_2_C : Statement (.bit_2_C) := ⟨.bitReg .b2 .C, rfl⟩
theorem bit_2_D : Statement (.bit_2_D) := ⟨.bitReg .b2 .D, rfl⟩
theorem bit_2_E : Statement (.bit_2_E) := ⟨.bitReg .b2 .E, rfl⟩
theorem bit_2_H : Statement (.bit_2_H) := ⟨.bitReg .b2 .H, rfl⟩
theorem bit_2_L : Statement (.bit_2_L) := ⟨.bitReg .b2 .L, rfl⟩
theorem bit_2_atHL : Statement (.bit_2_atHL) := ⟨.bitMem .b2, rfl⟩
theorem bit_2_A : Statement (.bit_2_A) := ⟨.bitReg .b2 .A, rfl⟩
theorem bit_3_B : Statement (.bit_3_B) := ⟨.bitReg .b3 .B, rfl⟩
theorem bit_3_C : Statement (.bit_3_C) := ⟨.bitReg .b3 .C, rfl⟩
theorem bit_3_D : Statement (.bit_3_D) := ⟨.bitReg .b3 .D, rfl⟩
theorem bit_3_E : Statement (.bit_3_E) := ⟨.bitReg .b3 .E, rfl⟩
theorem bit_3_H : Statement (.bit_3_H) := ⟨.bitReg .b3 .H, rfl⟩
theorem bit_3_L : Statement (.bit_3_L) := ⟨.bitReg .b3 .L, rfl⟩
theorem bit_3_atHL : Statement (.bit_3_atHL) := ⟨.bitMem .b3, rfl⟩
theorem bit_3_A : Statement (.bit_3_A) := ⟨.bitReg .b3 .A, rfl⟩
theorem bit_4_B : Statement (.bit_4_B) := ⟨.bitReg .b4 .B, rfl⟩
theorem bit_4_C : Statement (.bit_4_C) := ⟨.bitReg .b4 .C, rfl⟩
theorem bit_4_D : Statement (.bit_4_D) := ⟨.bitReg .b4 .D, rfl⟩
theorem bit_4_E : Statement (.bit_4_E) := ⟨.bitReg .b4 .E, rfl⟩
theorem bit_4_H : Statement (.bit_4_H) := ⟨.bitReg .b4 .H, rfl⟩
theorem bit_4_L : Statement (.bit_4_L) := ⟨.bitReg .b4 .L, rfl⟩
theorem bit_4_atHL : Statement (.bit_4_atHL) := ⟨.bitMem .b4, rfl⟩
theorem bit_4_A : Statement (.bit_4_A) := ⟨.bitReg .b4 .A, rfl⟩
theorem bit_5_B : Statement (.bit_5_B) := ⟨.bitReg .b5 .B, rfl⟩
theorem bit_5_C : Statement (.bit_5_C) := ⟨.bitReg .b5 .C, rfl⟩
theorem bit_5_D : Statement (.bit_5_D) := ⟨.bitReg .b5 .D, rfl⟩
theorem bit_5_E : Statement (.bit_5_E) := ⟨.bitReg .b5 .E, rfl⟩
theorem bit_5_H : Statement (.bit_5_H) := ⟨.bitReg .b5 .H, rfl⟩
theorem bit_5_L : Statement (.bit_5_L) := ⟨.bitReg .b5 .L, rfl⟩
theorem bit_5_atHL : Statement (.bit_5_atHL) := ⟨.bitMem .b5, rfl⟩
theorem bit_5_A : Statement (.bit_5_A) := ⟨.bitReg .b5 .A, rfl⟩
theorem bit_6_B : Statement (.bit_6_B) := ⟨.bitReg .b6 .B, rfl⟩
theorem bit_6_C : Statement (.bit_6_C) := ⟨.bitReg .b6 .C, rfl⟩
theorem bit_6_D : Statement (.bit_6_D) := ⟨.bitReg .b6 .D, rfl⟩
theorem bit_6_E : Statement (.bit_6_E) := ⟨.bitReg .b6 .E, rfl⟩
theorem bit_6_H : Statement (.bit_6_H) := ⟨.bitReg .b6 .H, rfl⟩
theorem bit_6_L : Statement (.bit_6_L) := ⟨.bitReg .b6 .L, rfl⟩
theorem bit_6_atHL : Statement (.bit_6_atHL) := ⟨.bitMem .b6, rfl⟩
theorem bit_6_A : Statement (.bit_6_A) := ⟨.bitReg .b6 .A, rfl⟩
theorem bit_7_B : Statement (.bit_7_B) := ⟨.bitReg .b7 .B, rfl⟩
theorem bit_7_C : Statement (.bit_7_C) := ⟨.bitReg .b7 .C, rfl⟩
theorem bit_7_D : Statement (.bit_7_D) := ⟨.bitReg .b7 .D, rfl⟩
theorem bit_7_E : Statement (.bit_7_E) := ⟨.bitReg .b7 .E, rfl⟩
theorem bit_7_H : Statement (.bit_7_H) := ⟨.bitReg .b7 .H, rfl⟩
theorem bit_7_L : Statement (.bit_7_L) := ⟨.bitReg .b7 .L, rfl⟩
theorem bit_7_atHL : Statement (.bit_7_atHL) := ⟨.bitMem .b7, rfl⟩
theorem bit_7_A : Statement (.bit_7_A) := ⟨.bitReg .b7 .A, rfl⟩
theorem res_0_B : Statement (.res_0_B) := ⟨.chgReg false .b0 .B, rfl⟩
theorem res_0_C : Statement (.res_0_C) := ⟨.chgReg false .b0 .C, rfl⟩
theorem res_0_D : Statement (.res_0_D) := ⟨.chgReg false .b0 .D, rfl⟩
theorem res_0_E : Statement (.res_0_E) := ⟨.chgReg false .b0 .E, rfl⟩
theorem res_0_H : Statement (.res_0_H) := ⟨.chgReg false .b0 .H, rfl⟩
theorem res_0_L : Statement (.res_0_L) := ⟨.chgReg false .b0 .L, rfl⟩
theorem res_0_atHL : Statement (.res_0_atHL) := ⟨.chgMem false .b0, rfl⟩
theorem res_0_A : Statement (.res_0_A) := ⟨.chgReg false .b0 .A, rfl⟩
theorem res_1_B : Statement (.res_1_B) := ⟨.chgReg false .b1 .B, rfl⟩
theorem res_1_C : Statement (.res_1_C) := ⟨.chgReg false .b1 .C, rfl⟩
theorem res_1_D : Statement (.res_1_D) := ⟨.chgReg false .b1 .D, rfl⟩
theorem res_1_E : Statement (.res_1_E) := ⟨.chgReg false .b1 .E, rfl⟩
theorem res_1_H : Statement (.res_1_H) := ⟨.chgReg false .b1 .H, rfl⟩
theorem res_1_L : Statement (.res_1_L) := ⟨.chgReg false .b1 .L, rfl⟩
theorem res_1_atHL : Statement (.res_1_atHL) := ⟨.chgMem false .b1, rfl⟩
theorem res_1_A : Statement (.res_1_A) := ⟨.chgReg false .b1 .A, rfl⟩
theorem res_2_B : Statement (.res_2_B) := ⟨.chgReg false .b2 .B, rfl⟩
theorem res_2_C : Statement (.res_2_C) := ⟨.chgReg false .b2 .C, rfl⟩
theorem res_2_D : Statement (.res_2_D) := ⟨.chgReg false .b2 .D, rfl⟩
theorem res_2_E : Statement (.res_2_E) := ⟨.chgReg false .b2 .E, rfl⟩
theorem res_2_H : Statement (.res_2_H) := ⟨.chgReg false .b2 .H, rfl⟩
theorem res_2_L : Statement (.res_2_L) := ⟨.chgReg false .b2 .L, rfl⟩
theorem res_2_atHL : Statement (.res_2_atHL) := ⟨.chgMem false .b2, rfl⟩
theorem res_2_A : Statement (.res_2_A) := ⟨.chgReg false .b2 .A, rfl⟩
theorem res_3_B : Statement (.res_3_B) := ⟨.chgReg false .b3 .B, rfl⟩
theorem res_3_C : Statement (.res_3_C) := ⟨.chgReg false .b3 .C, rfl⟩
theorem res_3_D : Statement (.res_3_D) := ⟨.chgReg false .b3 .D, rfl⟩
theorem res_3_E : Statement (.res_3_E) := ⟨.chgReg false .b3 .E, rfl⟩
theorem res_3_H : Statement (.res_3_H) := ⟨.chgReg false .b3 .H, rfl⟩
theorem res_3_L : Statement (.res_3_L) := ⟨.chgReg false .b3 .L, rfl⟩
theorem res_3_atHL : Statement (.res_3_atHL) := ⟨.chgMem false .b3, rfl⟩
theorem res_3_A : Statement (.res_3_A) := ⟨.chgReg false .b3 .A, rfl⟩
theorem res_4_B : Statement (.res_4_B) := ⟨.chgReg false .b4 .B, rfl⟩
theorem res_4_C : Statement (.res_4_C) := ⟨.chgReg false .b4 .C, rfl⟩
theorem res_4_D : Statement (.res_4_D) := ⟨.chgReg false .b4 .D, rfl⟩
theorem res_4_E : Statement (.res_4_E) := ⟨.chgReg false .b4 .E, rfl⟩
theorem res_4_H : Statement (.res_4_H) := ⟨.chgReg false .b4 .H, rfl⟩
theorem res_4_L : Statement (.res_4_L) := ⟨.chgReg false .b4 .L, rfl⟩
theorem res_4_atHL : Statement (.res_4_atHL) := ⟨.chgMem false .b4, rfl⟩
theorem res_4_A : Statement (.res_4_A) := ⟨.chgReg false .b4 .A, rfl⟩
theorem res_5_B : Statement (.res_5_B) := ⟨.chgReg false .b5 .B, rfl⟩
theorem res_5_C : Statement (.res_5_C) := ⟨.chgReg false .b5 .C, rfl⟩
theorem res_5_D : Statement (.res_5_D) := ⟨.chgReg false .b5 .D, rfl⟩
theorem res_5_E : Statement (.res_5_E) := ⟨.chgReg false .b5 .E, rfl⟩
theorem res_5_H : Statement (.res_5_H) := ⟨.chgReg false .b5 .H, rfl⟩
theorem res_5_L : Statement (.res_5_L) := ⟨.chgReg false .b5 .L, rfl⟩
theorem res_5_atHL : Statement (.res_5_atHL) := ⟨.chgMem false .b5, rfl⟩
theorem res_5_A : Statement (.res_5_A) := ⟨.chgReg false .b5 .A, rfl⟩
theorem res_6_B : Statement (.res_6_B) := ⟨.chgReg false .b6 .B, rfl⟩
theorem res_6_C : Statement (.res_6_C) := ⟨.chgReg false .b6 .C, rfl⟩
theorem res_6_D : Statement (.res_6_D) := ⟨.chgReg false .b6 .D, rfl⟩
theorem res_6_E : Statement (.res_6_E) := ⟨.chgReg false .b6 .E, rfl⟩
theorem res_6_H : Statement (.res_6_H) := ⟨.chgReg false .b6 .H, rfl⟩
theorem res_6_L : Statement (.res_6_L) := ⟨.chgReg false .b6 .L, rfl⟩
theorem res_6_atHL : Statement (.res_6_atHL) := ⟨.chgMem false .b6, rfl⟩
theorem res_6_A : Statement (.res_6_A) := ⟨.chgReg false .b6 .A, rfl⟩
theorem res_7_B : Statement (.res_7_B) := ⟨.chgReg false .b7 .B, rfl⟩
theorem res_7_C : Statement (.res_7_C) := ⟨.chgReg false .b7 .C, rfl⟩
theorem res_7_D : Statement (.res_7_D) := ⟨.chgReg false .b7 .D, rfl⟩
theorem res_7_E : Statement (.res_7_E) := ⟨.chgReg false .b7 .E, rfl⟩
theorem res_7_H : Statement (.res_7_H) := ⟨.chgReg false .b7 .H, rfl⟩
theorem res_7_L : Statement (.res_7_L) := ⟨.chgReg false .b7 .L, rfl⟩
theorem res_7_atHL : Statement (.res_7_atHL) := ⟨.chgMem false .b7, rfl⟩
theorem res_7_A : Statement (.res_7_A) := ⟨.chgReg false .b7 .A, rfl⟩
theorem set_0_B : Statement (.set_0_B) := ⟨.chgReg true .b0 .B, rfl⟩
theorem set_0_C : Statement (.set_0_C) := ⟨.chgReg true .b0 .C, rfl⟩
theorem set_0_D : Statement (.set_0_D) := ⟨.chgReg true .b0 .D, rfl⟩
theorem set_0_E : Statement (.set_0_E) := ⟨.chgReg true .b0 .E, rfl⟩
theorem set_0_H : Statement (.set_0_H) := ⟨.chgReg true .b0 .H, rfl⟩
theorem set_0_L : Statement (.set_0_L) := ⟨.chgReg true .b0 .L, rfl⟩
theorem set_0_atHL : Statement (.set_0_atHL) := ⟨.chgMem true .b0, rfl⟩
theorem set_0_A : Statement (.set_0_A) := ⟨.chgReg true .b0 .A, rfl⟩
theorem set_1_B : Statement (.set_1_B) := ⟨.chgReg true .b1 .B, rfl⟩
theorem set_1_C : Statement (.set_1_C) := ⟨.chgReg true .b1 .C, rfl⟩
theorem set_1_D : Statement (.set_1_D) := ⟨.chgReg true .b1 .D, rfl⟩
theorem set_1_E : Statement (.set_1_E) := ⟨.chgReg true .b1 .E, rfl⟩
theorem set_1_H : Statement (.set_1_H) := ⟨.chgReg true .b1 .H, rfl⟩
theorem set_1_L : Statement (.set_1_L) := ⟨.chgReg true .b1 .L, rfl⟩
theorem set_1_atHL : Statement (.set_1_atHL) := ⟨.chgMem true .b1, rfl⟩
theorem set_1_A : Statement (.set_1_A) := ⟨.chgReg true .b1 .A, rfl⟩
theorem set_2_B : Statement (.set_2_B) := ⟨.chgReg true .b2 .B, rfl⟩
theorem set_2_C : Statement (.set_2_C) := ⟨.chgReg true .b2 .C, rfl⟩
theorem set_2_D : Statement (.set_2_D) := ⟨.chgReg true .b2 .D, rfl⟩
theorem set_2_E : Statement (.set_2_E) := ⟨.chgReg true .b2 .E, rfl⟩
theorem set_2_H : Statement (.set_2_H) := ⟨.chgReg true .b2 .H, rfl⟩
theorem set_2_L : Statement (.set_2_L) := ⟨.chgReg true .b2 .L, rfl⟩
theorem set_2_atHL : Statement (.set_2_atHL) := ⟨.chgMem true .b2, rfl⟩
theorem set_2_A : Statement (.set_2_A) := ⟨.chgReg true .b2 .A, rfl⟩
theorem set_3_B : Statement (.set_3_B) := ⟨.chgReg true .b3 .B, rfl⟩
theorem set_3_C : Statement (.set_3_C) := ⟨.chgReg true .b3 .C, rfl⟩
theorem set_3_D : Statement (.set_3_D) := ⟨.chgReg true .b3 .D, rfl⟩
theorem set_3_E : Statement (.set_3_E) := ⟨.chgReg true .b3 .E, rfl⟩
theorem set_3_H : Statement (.set_3_H) := ⟨.chgReg true .b3 .H, rfl⟩
theorem set_3_L : Statement (.set_3_L) := ⟨.chgReg true .b3 .L, rfl⟩
theorem set_3_atHL : Statement (.set_3_atHL) := ⟨.chgMem true .b3, rfl⟩
theorem set_3_A : Statement (.set_3_A) := ⟨.chgReg true .b3 .A, rfl⟩
theorem set_4_B : Statement (.set_4_B) := ⟨.chgReg true .b4 .B, rfl⟩
theorem set_4_C : Statement (.set_4_C) := ⟨.chgReg true .b4 .C, rfl⟩
theorem set_4_D : Statement (.set_4_D) := ⟨.chgReg true .b4 .D, rfl⟩
theorem set_4_E : Statement (.set_4_E) := ⟨.chgReg true .b4 .E, rfl⟩
theorem set_4_H : Statement (.set_4_H) := ⟨.chgReg true .b4 .H, rfl⟩
theorem set_4_L : Statement (.set_4_L) := ⟨.chgReg true .b4 .L, rfl⟩
theorem set_4_atHL : Statement (.set_4_atHL) := ⟨.chgMem true .b4, rfl⟩
theorem set_4_A : Statement (.set_4_A) := ⟨.chgReg true .b4 .A, rfl⟩
theorem set_5_B : Statement (.set_5_B) := ⟨.chgReg true .b5 .B, rfl⟩
theorem set_5_C : Statement (.set_5_C) := ⟨.chgReg true .b5 .C, rfl⟩
theorem set_5_D : Statement (.set_5_D) := ⟨.chgReg true .b5 .D, rfl⟩
theorem set_5_E : Statement (.set_5_E) := ⟨.chgReg true .b5 .E, rfl⟩
theorem set_5_H : Statement (.set_5_H) := ⟨.chgReg true .b5 .H, rfl⟩
theorem set_5_L : Statement (.set_5_L) := ⟨.chgReg true .b5 .L, rfl⟩
theorem set_5_atHL : Statement (.set_5_atHL) := ⟨.chgMem true .b5, rfl⟩
theorem set_5_A : Statement (.set_5_A) := ⟨.chgReg true .b5 .A, rfl⟩
theorem set_6_B : Statement (.set_6_B) := ⟨.chgReg true .b6 .B, rfl⟩
theorem set_6_C : Statement (.set_6_C) := ⟨.chgReg true .b6 .C, rfl⟩
theorem set_6_D : Statement (.set_6_D) := ⟨.chgReg true .b6 .D, rfl⟩
theorem set_6_E : Statement (.set_6_E) := ⟨.chgReg true .b6 .E, rfl⟩
theorem set_6_H : Statement (.set_6_H) := ⟨.chgReg true .b6 .H, rfl⟩
theorem set_6_L : Statement (.set_6_L) := ⟨.chgReg true .b6 .L, rfl⟩
theorem set_6_atHL : Statement (.set_6_atHL) := ⟨.chgMem true .b6, rfl⟩
theorem set_6_A : Statement (.set_6_A) := ⟨.chgReg true .b6 .A, rfl⟩
theorem set_7_B : Statement (.set_7_B) := ⟨.chgReg true .b7 .B, rfl⟩
theorem set_7_C : Statement (.set_7_C) := ⟨.chgReg true .b7 .C, rfl⟩
theorem set_7_D : Statement (.set_7_D) := ⟨.chgReg true .b7 .D, rfl⟩
theorem set_7_E : Statement (.set_7_E) := ⟨.chgReg true .b7 .E, rfl⟩
theorem set_7_H : Statement (.set_7_H) := ⟨.chgReg true .b7 .H, rfl⟩
theorem set_7_L : Statement (.set_7_L) := ⟨.chgReg true .b7 .L, rfl⟩
theorem set_7_atHL : Statement (.set_7_atHL) := ⟨.chgMem true .b7, rfl⟩
theorem set_7_A : Statement (.set_7_A) := ⟨.chgReg true .b7 .A, rfl⟩
theorem in_B_atC : Statement (.in_B_atC) := ⟨.inReg .B, rfl⟩
theorem out_atC_B : Statement (.out_atC_B) := ⟨.outReg .B, rfl⟩
theorem sbc_HL_BC : Statement (.sbc_HL_BC) := ⟨.sbcHl .BC, rfl⟩
theorem ld_atnn_BC (nn : Word) : Statement (.ld_atnn_BC nn) := ⟨.ldAbsPair .BC nn, rfl⟩
theorem neg : Statement (.neg) := ⟨.neg, rfl⟩
theorem retn : Statement (.retn) := ⟨.retn, rfl⟩
theorem im_0 : Statement (.im_0) := ⟨.im .im0, rfl⟩
theorem ld_I_A : Statement (.ld_I_A) := ⟨.ldSpecialAcc .I, rfl⟩
theorem in_C_atC : Statement (.in_C_atC) := ⟨.inReg .C, rfl⟩
theorem out_atC_C : Statement (.out_atC_C) := ⟨.outReg .C, rfl⟩
theorem adc_HL_BC : Statement (.adc_HL_BC) := ⟨.adcHl .BC, rfl⟩
theorem ld_BC_atnn (nn : Word) : Statement (.ld_BC_atnn nn) := ⟨.ldPairAbs .BC nn, rfl⟩
theorem reti : Statement (.reti) := ⟨.reti, rfl⟩
theorem ld_R_A : Statement (.ld_R_A) := ⟨.ldSpecialAcc .R, rfl⟩
theorem in_D_atC : Statement (.in_D_atC) := ⟨.inReg .D, rfl⟩
theorem out_atC_D : Statement (.out_atC_D) := ⟨.outReg .D, rfl⟩
theorem sbc_HL_DE : Statement (.sbc_HL_DE) := ⟨.sbcHl .DE, rfl⟩
theorem ld_atnn_DE (nn : Word) : Statement (.ld_atnn_DE nn) := ⟨.ldAbsPair .DE nn, rfl⟩
theorem im_1 : Statement (.im_1) := ⟨.im .im1, rfl⟩
theorem ld_A_I : Statement (.ld_A_I) := ⟨.ldAccSpecial .I, rfl⟩
theorem in_E_atC : Statement (.in_E_atC) := ⟨.inReg .E, rfl⟩
theorem out_atC_E : Statement (.out_atC_E) := ⟨.outReg .E, rfl⟩
theorem adc_HL_DE : Statement (.adc_HL_DE) := ⟨.adcHl .DE, rfl⟩
theorem ld_DE_atnn (nn : Word) : Statement (.ld_DE_atnn nn) := ⟨.ldPairAbs .DE nn, rfl⟩
theorem im_2 : Statement (.im_2) := ⟨.im .im2, rfl⟩
theorem ld_A_R : Statement (.ld_A_R) := ⟨.ldAccSpecial .R, rfl⟩
theorem in_H_atC : Statement (.in_H_atC) := ⟨.inReg .H, rfl⟩
theorem out_atC_H : Statement (.out_atC_H) := ⟨.outReg .H, rfl⟩
theorem sbc_HL_HL : Statement (.sbc_HL_HL) := ⟨.sbcHl .HL, rfl⟩
theorem ld_atnn_HL_ED (nn : Word) : Statement (.ld_atnn_HL_ED nn) := ⟨.ldAbsPair .HL nn, rfl⟩
theorem rrd : Statement (.rrd) := ⟨.rrd, rfl⟩
theorem in_L_atC : Statement (.in_L_atC) := ⟨.inReg .L, rfl⟩
theorem out_atC_L : Statement (.out_atC_L) := ⟨.outReg .L, rfl⟩
theorem adc_HL_HL : Statement (.adc_HL_HL) := ⟨.adcHl .HL, rfl⟩
theorem ld_HL_atnn_ED (nn : Word) : Statement (.ld_HL_atnn_ED nn) := ⟨.ldPairAbs .HL nn, rfl⟩
theorem rld : Statement (.rld) := ⟨.rld, rfl⟩
theorem sbc_HL_SP : Statement (.sbc_HL_SP) := ⟨.sbcHl .SP, rfl⟩
theorem ld_atnn_SP (nn : Word) : Statement (.ld_atnn_SP nn) := ⟨.ldAbsPair .SP nn, rfl⟩
theorem in_A_atC : Statement (.in_A_atC) := ⟨.inReg .A, rfl⟩
theorem out_atC_A : Statement (.out_atC_A) := ⟨.outReg .A, rfl⟩
theorem adc_HL_SP : Statement (.adc_HL_SP) := ⟨.adcHl .SP, rfl⟩
theorem ld_SP_atnn (nn : Word) : Statement (.ld_SP_atnn nn) := ⟨.ldPairAbs .SP nn, rfl⟩
theorem ldi : Statement (.ldi) := ⟨.block .ldi, rfl⟩
theorem cpi : Statement (.cpi) := ⟨.block .cpi, rfl⟩
theorem ini : Statement (.ini) := ⟨.block .ini, rfl⟩
theorem outi : Statement (.outi) := ⟨.block .outi, rfl⟩
theorem ldd : Statement (.ldd) := ⟨.block .ldd, rfl⟩
theorem cpd : Statement (.cpd) := ⟨.block .cpd, rfl⟩
theorem ind : Statement (.ind) := ⟨.block .ind, rfl⟩
theorem outd : Statement (.outd) := ⟨.block .outd, rfl⟩
theorem ldir : Statement (.ldir) := ⟨.block .ldir, rfl⟩
theorem cpir : Statement (.cpir) := ⟨.block .cpir, rfl⟩
theorem inir : Statement (.inir) := ⟨.block .inir, rfl⟩
theorem otir : Statement (.otir) := ⟨.block .otir, rfl⟩
theorem lddr : Statement (.lddr) := ⟨.block .lddr, rfl⟩
theorem cpdr : Statement (.cpdr) := ⟨.block .cpdr, rfl⟩
theorem indr : Statement (.indr) := ⟨.block .indr, rfl⟩
theorem otdr : Statement (.otdr) := ⟨.block .otdr, rfl⟩
theorem add_IX_BC : Statement (.add_IX_BC) := ⟨.addIndex .IX .BC, rfl⟩
theorem add_IX_DE : Statement (.add_IX_DE) := ⟨.addIndex .IX .DE, rfl⟩
theorem ld_IX_nn (nn : Word) : Statement (.ld_IX_nn nn) := ⟨.ldIndexImm .IX nn, rfl⟩
theorem ld_atnn_IX (nn : Word) : Statement (.ld_atnn_IX nn) := ⟨.ldAbsIndex .IX nn, rfl⟩
theorem inc_IX : Statement (.inc_IX) := ⟨.incIndex .IX, rfl⟩
theorem inc_IXH : Statement (.inc_IXH) := ⟨.incHalf .IX .H, rfl⟩
theorem dec_IXH : Statement (.dec_IXH) := ⟨.decHalf .IX .H, rfl⟩
theorem ld_IXH_n (n : Byte) : Statement (.ld_IXH_n n) := ⟨.ldHalfImm .IX .H n, rfl⟩
theorem add_IX_IX : Statement (.add_IX_IX) := ⟨.addIndex .IX .XY, rfl⟩
theorem ld_IX_atnn (nn : Word) : Statement (.ld_IX_atnn nn) := ⟨.ldIndexAbs .IX nn, rfl⟩
theorem dec_IX : Statement (.dec_IX) := ⟨.decIndex .IX, rfl⟩
theorem inc_IXL : Statement (.inc_IXL) := ⟨.incHalf .IX .L, rfl⟩
theorem dec_IXL : Statement (.dec_IXL) := ⟨.decHalf .IX .L, rfl⟩
theorem ld_IXL_n (n : Byte) : Statement (.ld_IXL_n n) := ⟨.ldHalfImm .IX .L n, rfl⟩
theorem inc_atIXd (d : Byte) : Statement (.inc_atIXd d) := ⟨.incIdx .IX d, rfl⟩
theorem dec_atIXd (d : Byte) : Statement (.dec_atIXd d) := ⟨.decIdx .IX d, rfl⟩
theorem ld_atIXd_n (d : Byte) (n : Byte) : Statement (.ld_atIXd_n d n) := ⟨.ldIdxImm .IX d n, rfl⟩
theorem add_IX_SP : Statement (.add_IX_SP) := ⟨.addIndex .IX .SP, rfl⟩
theorem ld_B_IXH : Statement (.ld_B_IXH) := ⟨.ldRegHalf .B .IX .H, rfl⟩
theorem ld_B_IXL : Statement (.ld_B_IXL) := ⟨.ldRegHalf .B .IX .L, rfl⟩
theorem ld_B_atIXd (d : Byte) : Statement (.ld_B_atIXd d) := ⟨.ldRegIdx .B .IX d, rfl⟩
theorem ld_C_IXH : Statement (.ld_C_IXH) := ⟨.ldRegHalf .C .IX .H, rfl⟩
theorem ld_C_IXL : Statement (.ld_C_IXL) := ⟨.ldRegHalf .C .IX .L, rfl⟩
theorem ld_C_atIXd (d : Byte) : Statement (.ld_C_atIXd d) := ⟨.ldRegIdx .C .IX d, rfl⟩
theorem ld_D_IXH : Statement (.ld_D_IXH) := ⟨.ldRegHalf .D .IX .H, rfl⟩
theorem ld_D_IXL : Statement (.ld_D_IXL) := ⟨.ldRegHalf .D .IX .L, rfl⟩
theorem ld_D_atIXd (d : Byte) : Statement (.ld_D_atIXd d) := ⟨.ldRegIdx .D .IX d, rfl⟩
theorem ld_E_IXH : Statement (.ld_E_IXH) := ⟨.ldRegHalf .E .IX .H, rfl⟩
theorem ld_E_IXL : Statement (.ld_E_IXL) := ⟨.ldRegHalf .E .IX .L, rfl⟩
theorem ld_E_atIXd (d : Byte) : Statement (.ld_E_atIXd d) := ⟨.ldRegIdx .E .IX d, rfl⟩
theorem ld_IXH_B : Statement (.ld_IXH_B) := ⟨.ldHalfReg .IX .H .B, rfl⟩
theorem ld_IXH_C : Statement (.ld_IXH_C) := ⟨.ldHalfReg .IX .H .C, rfl⟩
theorem ld_IXH_D : Statement (.ld_IXH_D) := ⟨.ldHalfReg .IX .H .D, rfl⟩
theorem ld_IXH_E : Statement (.ld_IXH_E) := ⟨.ldHalfReg .IX .H .E, rfl⟩
theorem ld_IXH_IXH : Statement (.ld_IXH_IXH) := ⟨.ldHalfHalf .IX .H .H, rfl⟩
theorem ld_IXH_IXL : Statement (.ld_IXH_IXL) := ⟨.ldHalfHalf .IX .H .L, rfl⟩
theorem ld_H_atIXd (d : Byte) : Statement (.ld_H_atIXd d) := ⟨.ldRegIdx .H .IX d, rfl⟩
theorem ld_IXH_A : Statement (.ld_IXH_A) := ⟨.ldHalfReg .IX .H .A, rfl⟩
theorem ld_IXL_B : Statement (.ld_IXL_B) := ⟨.ldHalfReg .IX .L .B, rfl⟩
theorem ld_IXL_C : Statement (.ld_IXL_C) := ⟨.ldHalfReg .IX .L .C, rfl⟩
theorem ld_IXL_D : Statement (.ld_IXL_D) := ⟨.ldHalfReg .IX .L .D, rfl⟩
theorem ld_IXL_E : Statement (.ld_IXL_E) := ⟨.ldHalfReg .IX .L .E, rfl⟩
theorem ld_IXL_IXH : Statement (.ld_IXL_IXH) := ⟨.ldHalfHalf .IX .L .H, rfl⟩
theorem ld_IXL_IXL : Statement (.ld_IXL_IXL) := ⟨.ldHalfHalf .IX .L .L, rfl⟩
theorem ld_L_atIXd (d : Byte) : Statement (.ld_L_atIXd d) := ⟨.ldRegIdx .L .IX d, rfl⟩
theorem ld_IXL_A : Statement (.ld_IXL_A) := ⟨.ldHalfReg .IX .L .A, rfl⟩
theorem ld_atIXd_B (d : Byte) : Statement (.ld_atIXd_B d) := ⟨.ldIdxReg .IX d .B, rfl⟩
theorem ld_atIXd_C (d : Byte) : Statement (.ld_atIXd_C d) := ⟨.ldIdxReg .IX d .C, rfl⟩
theorem ld_atIXd_D (d : Byte) : Statement (.ld_atIXd_D d) := ⟨.ldIdxReg .IX d .D, rfl⟩
theorem ld_atIXd_E (d : Byte) : Statement (.ld_atIXd_E d) := ⟨.ldIdxReg .IX d .E, rfl⟩
theorem ld_atIXd_H (d : Byte) : Statement (.ld_atIXd_H d) := ⟨.ldIdxReg .IX d .H, rfl⟩
theorem ld_atIXd_L (d : Byte) : Statement (.ld_atIXd_L d) := ⟨.ldIdxReg .IX d .L, rfl⟩
theorem ld_atIXd_A (d : Byte) : Statement (.ld_atIXd_A d) := ⟨.ldIdxReg .IX d .A, rfl⟩
theorem ld_A_IXH : Statement (.ld_A_IXH) := ⟨.ldRegHalf .A .IX .H, rfl⟩
theorem ld_A_IXL : Statement (.ld_A_IXL) := ⟨.ldRegHalf .A .IX .L, rfl⟩
theorem ld_A_atIXd (d : Byte) : Statement (.ld_A_atIXd d) := ⟨.ldRegIdx .A .IX d, rfl⟩
theorem add_A_IXH : Statement (.add_A_IXH) := ⟨.aluHalf .add .IX .H, rfl⟩
theorem add_A_IXL : Statement (.add_A_IXL) := ⟨.aluHalf .add .IX .L, rfl⟩
theorem add_A_atIXd (d : Byte) : Statement (.add_A_atIXd d) := ⟨.aluIdx .add .IX d, rfl⟩
theorem adc_A_IXH : Statement (.adc_A_IXH) := ⟨.aluHalf .adc .IX .H, rfl⟩
theorem adc_A_IXL : Statement (.adc_A_IXL) := ⟨.aluHalf .adc .IX .L, rfl⟩
theorem adc_A_atIXd (d : Byte) : Statement (.adc_A_atIXd d) := ⟨.aluIdx .adc .IX d, rfl⟩
theorem sub_IXH : Statement (.sub_IXH) := ⟨.aluHalf .sub .IX .H, rfl⟩
theorem sub_IXL : Statement (.sub_IXL) := ⟨.aluHalf .sub .IX .L, rfl⟩
theorem sub_atIXd (d : Byte) : Statement (.sub_atIXd d) := ⟨.aluIdx .sub .IX d, rfl⟩
theorem sbc_A_IXH : Statement (.sbc_A_IXH) := ⟨.aluHalf .sbc .IX .H, rfl⟩
theorem sbc_A_IXL : Statement (.sbc_A_IXL) := ⟨.aluHalf .sbc .IX .L, rfl⟩
theorem sbc_A_atIXd (d : Byte) : Statement (.sbc_A_atIXd d) := ⟨.aluIdx .sbc .IX d, rfl⟩
theorem and_IXH : Statement (.and_IXH) := ⟨.aluHalf .and .IX .H, rfl⟩
theorem and_IXL : Statement (.and_IXL) := ⟨.aluHalf .and .IX .L, rfl⟩
theorem and_atIXd (d : Byte) : Statement (.and_atIXd d) := ⟨.aluIdx .and .IX d, rfl⟩
theorem xor_IXH : Statement (.xor_IXH) := ⟨.aluHalf .xor .IX .H, rfl⟩
theorem xor_IXL : Statement (.xor_IXL) := ⟨.aluHalf .xor .IX .L, rfl⟩
theorem xor_atIXd (d : Byte) : Statement (.xor_atIXd d) := ⟨.aluIdx .xor .IX d, rfl⟩
theorem or_IXH : Statement (.or_IXH) := ⟨.aluHalf .or .IX .H, rfl⟩
theorem or_IXL : Statement (.or_IXL) := ⟨.aluHalf .or .IX .L, rfl⟩
theorem or_atIXd (d : Byte) : Statement (.or_atIXd d) := ⟨.aluIdx .or .IX d, rfl⟩
theorem cp_IXH : Statement (.cp_IXH) := ⟨.aluHalf .cp .IX .H, rfl⟩
theorem cp_IXL : Statement (.cp_IXL) := ⟨.aluHalf .cp .IX .L, rfl⟩
theorem cp_atIXd (d : Byte) : Statement (.cp_atIXd d) := ⟨.aluIdx .cp .IX d, rfl⟩
theorem rlc_atIXd_to_B (d : Byte) : Statement (.rlc_atIXd_to_B d) := ⟨.rotIdx .rlc .IX d (some .B), rfl⟩
theorem rlc_atIXd_to_C (d : Byte) : Statement (.rlc_atIXd_to_C d) := ⟨.rotIdx .rlc .IX d (some .C), rfl⟩
theorem rlc_atIXd_to_D (d : Byte) : Statement (.rlc_atIXd_to_D d) := ⟨.rotIdx .rlc .IX d (some .D), rfl⟩
theorem rlc_atIXd_to_E (d : Byte) : Statement (.rlc_atIXd_to_E d) := ⟨.rotIdx .rlc .IX d (some .E), rfl⟩
theorem rlc_atIXd_to_H (d : Byte) : Statement (.rlc_atIXd_to_H d) := ⟨.rotIdx .rlc .IX d (some .H), rfl⟩
theorem rlc_atIXd_to_L (d : Byte) : Statement (.rlc_atIXd_to_L d) := ⟨.rotIdx .rlc .IX d (some .L), rfl⟩
theorem rlc_atIXd (d : Byte) : Statement (.rlc_atIXd d) := ⟨.rotIdx .rlc .IX d none, rfl⟩
theorem rlc_atIXd_to_A (d : Byte) : Statement (.rlc_atIXd_to_A d) := ⟨.rotIdx .rlc .IX d (some .A), rfl⟩
theorem rrc_atIXd_to_B (d : Byte) : Statement (.rrc_atIXd_to_B d) := ⟨.rotIdx .rrc .IX d (some .B), rfl⟩
theorem rrc_atIXd_to_C (d : Byte) : Statement (.rrc_atIXd_to_C d) := ⟨.rotIdx .rrc .IX d (some .C), rfl⟩
theorem rrc_atIXd_to_D (d : Byte) : Statement (.rrc_atIXd_to_D d) := ⟨.rotIdx .rrc .IX d (some .D), rfl⟩
theorem rrc_atIXd_to_E (d : Byte) : Statement (.rrc_atIXd_to_E d) := ⟨.rotIdx .rrc .IX d (some .E), rfl⟩
theorem rrc_atIXd_to_H (d : Byte) : Statement (.rrc_atIXd_to_H d) := ⟨.rotIdx .rrc .IX d (some .H), rfl⟩
theorem rrc_atIXd_to_L (d : Byte) : Statement (.rrc_atIXd_to_L d) := ⟨.rotIdx .rrc .IX d (some .L), rfl⟩
theorem rrc_atIXd (d : Byte) : Statement (.rrc_atIXd d) := ⟨.rotIdx .rrc .IX d none, rfl⟩
theorem rrc_atIXd_to_A (d : Byte) : Statement (.rrc_atIXd_to_A d) := ⟨.rotIdx .rrc .IX d (some .A), rfl⟩
theorem rl_atIXd_to_B (d : Byte) : Statement (.rl_atIXd_to_B d) := ⟨.rotIdx .rl .IX d (some .B), rfl⟩
theorem rl_atIXd_to_C (d : Byte) : Statement (.rl_atIXd_to_C d) := ⟨.rotIdx .rl .IX d (some .C), rfl⟩
theorem rl_atIXd_to_D (d : Byte) : Statement (.rl_atIXd_to_D d) := ⟨.rotIdx .rl .IX d (some .D), rfl⟩
theorem rl_atIXd_to_E (d : Byte) : Statement (.rl_atIXd_to_E d) := ⟨.rotIdx .rl .IX d (some .E), rfl⟩
theorem rl_atIXd_to_H (d : Byte) : Statement (.rl_atIXd_to_H d) := ⟨.rotIdx .rl .IX d (some .H), rfl⟩
theorem rl_atIXd_to_L (d : Byte) : Statement (.rl_atIXd_to_L d) := ⟨.rotIdx .rl .IX d (some .L), rfl⟩
theorem rl_atIXd (d : Byte) : Statement (.rl_atIXd d) := ⟨.rotIdx .rl .IX d none, rfl⟩
theorem rl_atIXd_to_A (d : Byte) : Statement (.rl_atIXd_to_A d) := ⟨.rotIdx .rl .IX d (some .A), rfl⟩
theorem rr_atIXd_to_B (d : Byte) : Statement (.rr_atIXd_to_B d) := ⟨.rotIdx .rr .IX d (some .B), rfl⟩
theorem rr_atIXd_to_C (d : Byte) : Statement (.rr_atIXd_to_C d) := ⟨.rotIdx .rr .IX d (some .C), rfl⟩
theorem rr_atIXd_to_D (d : Byte) : Statement (.rr_atIXd_to_D d) := ⟨.rotIdx .rr .IX d (some .D), rfl⟩
theorem rr_atIXd_to_E (d : Byte) : Statement (.rr_atIXd_to_E d) := ⟨.rotIdx .rr .IX d (some .E), rfl⟩
theorem rr_atIXd_to_H (d : Byte) : Statement (.rr_atIXd_to_H d) := ⟨.rotIdx .rr .IX d (some .H), rfl⟩
theorem rr_atIXd_to_L (d : Byte) : Statement (.rr_atIXd_to_L d) := ⟨.rotIdx .rr .IX d (some .L), rfl⟩
theorem rr_atIXd (d : Byte) : Statement (.rr_atIXd d) := ⟨.rotIdx .rr .IX d none, rfl⟩
theorem rr_atIXd_to_A (d : Byte) : Statement (.rr_atIXd_to_A d) := ⟨.rotIdx .rr .IX d (some .A), rfl⟩
theorem sla_atIXd_to_B (d : Byte) : Statement (.sla_atIXd_to_B d) := ⟨.rotIdx .sla .IX d (some .B), rfl⟩
theorem sla_atIXd_to_C (d : Byte) : Statement (.sla_atIXd_to_C d) := ⟨.rotIdx .sla .IX d (some .C), rfl⟩
theorem sla_atIXd_to_D (d : Byte) : Statement (.sla_atIXd_to_D d) := ⟨.rotIdx .sla .IX d (some .D), rfl⟩
theorem sla_atIXd_to_E (d : Byte) : Statement (.sla_atIXd_to_E d) := ⟨.rotIdx .sla .IX d (some .E), rfl⟩
theorem sla_atIXd_to_H (d : Byte) : Statement (.sla_atIXd_to_H d) := ⟨.rotIdx .sla .IX d (some .H), rfl⟩
theorem sla_atIXd_to_L (d : Byte) : Statement (.sla_atIXd_to_L d) := ⟨.rotIdx .sla .IX d (some .L), rfl⟩
theorem sla_atIXd (d : Byte) : Statement (.sla_atIXd d) := ⟨.rotIdx .sla .IX d none, rfl⟩
theorem sla_atIXd_to_A (d : Byte) : Statement (.sla_atIXd_to_A d) := ⟨.rotIdx .sla .IX d (some .A), rfl⟩
theorem sra_atIXd_to_B (d : Byte) : Statement (.sra_atIXd_to_B d) := ⟨.rotIdx .sra .IX d (some .B), rfl⟩
theorem sra_atIXd_to_C (d : Byte) : Statement (.sra_atIXd_to_C d) := ⟨.rotIdx .sra .IX d (some .C), rfl⟩
theorem sra_atIXd_to_D (d : Byte) : Statement (.sra_atIXd_to_D d) := ⟨.rotIdx .sra .IX d (some .D), rfl⟩
theorem sra_atIXd_to_E (d : Byte) : Statement (.sra_atIXd_to_E d) := ⟨.rotIdx .sra .IX d (some .E), rfl⟩
theorem sra_atIXd_to_H (d : Byte) : Statement (.sra_atIXd_to_H d) := ⟨.rotIdx .sra .IX d (some .H), rfl⟩
theorem sra_atIXd_to_L (d : Byte) : Statement (.sra_atIXd_to_L d) := ⟨.rotIdx .sra .IX d (some .L), rfl⟩
theorem sra_atIXd (d : Byte) : Statement (.sra_atIXd d) := ⟨.rotIdx .sra .IX d none, rfl⟩
theorem sra_atIXd_to_A (d : Byte) : Statement (.sra_atIXd_to_A d) := ⟨.rotIdx .sra .IX d (some .A), rfl⟩
theorem sll_atIXd_to_B (d : Byte) : Statement (.sll_atIXd_to_B d) := ⟨.rotIdx .sll .IX d (some .B), rfl⟩
theorem sll_atIXd_to_C (d : Byte) : Statement (.sll_atIXd_to_C d) := ⟨.rotIdx .sll .IX d (some .C), rfl⟩
theorem sll_atIXd_to_D (d : Byte) : Statement (.sll_atIXd_to_D d) := ⟨.rotIdx .sll .IX d (some .D), rfl⟩
theorem sll_atIXd_to_E (d : Byte) : Statement (.sll_atIXd_to_E d) := ⟨.rotIdx .sll .IX d (some .E), rfl⟩
theorem sll_atIXd_to_H (d : Byte) : Statement (.sll_atIXd_to_H d) := ⟨.rotIdx .sll .IX d (some .H), rfl⟩
theorem sll_atIXd_to_L (d : Byte) : Statement (.sll_atIXd_to_L d) := ⟨.rotIdx .sll .IX d (some .L), rfl⟩
theorem sll_atIXd (d : Byte) : Statement (.sll_atIXd d) := ⟨.rotIdx .sll .IX d none, rfl⟩
theorem sll_atIXd_to_A (d : Byte) : Statement (.sll_atIXd_to_A d) := ⟨.rotIdx .sll .IX d (some .A), rfl⟩
theorem srl_atIXd_to_B (d : Byte) : Statement (.srl_atIXd_to_B d) := ⟨.rotIdx .srl .IX d (some .B), rfl⟩
theorem srl_atIXd_to_C (d : Byte) : Statement (.srl_atIXd_to_C d) := ⟨.rotIdx .srl .IX d (some .C), rfl⟩
theorem srl_atIXd_to_D (d : Byte) : Statement (.srl_atIXd_to_D d) := ⟨.rotIdx .srl .IX d (some .D), rfl⟩
theorem srl_atIXd_to_E (d : Byte) : Statement (.srl_atIXd_to_E d) := ⟨.rotIdx .srl .IX d (some .E), rfl⟩
theorem srl_atIXd_to_H (d : Byte) : Statement (.srl_atIXd_to_H d) := ⟨.rotIdx .srl .IX d (some .H), rfl⟩
theorem srl_atIXd_to_L (d : Byte) : Statement (.srl_atIXd_to_L d) := ⟨.rotIdx .srl .IX d (some .L), rfl⟩
theorem srl_atIXd (d : Byte) : Statement (.srl_atIXd d) := ⟨.rotIdx .srl .IX d none, rfl⟩
theorem srl_atIXd_to_A (d : Byte) : Statement (.srl_atIXd_to_A d) := ⟨.rotIdx .srl .IX d (some .A), rfl⟩
theorem bit_0_atIXd (d : Byte) (z : BitVec 3) : Statement (.bit_0_atIXd d z) := ⟨.bitIdx .b0 .IX d z, rfl⟩
theorem bit_1_atIXd (d : Byte) (z : BitVec 3) : Statement (.bit_1_atIXd d z) := ⟨.bitIdx .b1 .IX d z, rfl⟩
theorem bit_2_atIXd (d : Byte) (z : BitVec 3) : Statement (.bit_2_atIXd d z) := ⟨.bitIdx .b2 .IX d z, rfl⟩
theorem bit_3_atIXd (d : Byte) (z : BitVec 3) : Statement (.bit_3_atIXd d z) := ⟨.bitIdx .b3 .IX d z, rfl⟩
theorem bit_4_atIXd (d : Byte) (z : BitVec 3) : Statement (.bit_4_atIXd d z) := ⟨.bitIdx .b4 .IX d z, rfl⟩
theorem bit_5_atIXd (d : Byte) (z : BitVec 3) : Statement (.bit_5_atIXd d z) := ⟨.bitIdx .b5 .IX d z, rfl⟩
theorem bit_6_atIXd (d : Byte) (z : BitVec 3) : Statement (.bit_6_atIXd d z) := ⟨.bitIdx .b6 .IX d z, rfl⟩
theorem bit_7_atIXd (d : Byte) (z : BitVec 3) : Statement (.bit_7_atIXd d z) := ⟨.bitIdx .b7 .IX d z, rfl⟩
theorem res_0_atIXd_to_B (d : Byte) : Statement (.res_0_atIXd_to_B d) := ⟨.chgIdx false .b0 .IX d (some .B), rfl⟩
theorem res_0_atIXd_to_C (d : Byte) : Statement (.res_0_atIXd_to_C d) := ⟨.chgIdx false .b0 .IX d (some .C), rfl⟩
theorem res_0_atIXd_to_D (d : Byte) : Statement (.res_0_atIXd_to_D d) := ⟨.chgIdx false .b0 .IX d (some .D), rfl⟩
theorem res_0_atIXd_to_E (d : Byte) : Statement (.res_0_atIXd_to_E d) := ⟨.chgIdx false .b0 .IX d (some .E), rfl⟩
theorem res_0_atIXd_to_H (d : Byte) : Statement (.res_0_atIXd_to_H d) := ⟨.chgIdx false .b0 .IX d (some .H), rfl⟩
theorem res_0_atIXd_to_L (d : Byte) : Statement (.res_0_atIXd_to_L d) := ⟨.chgIdx false .b0 .IX d (some .L), rfl⟩
theorem res_0_atIXd (d : Byte) : Statement (.res_0_atIXd d) := ⟨.chgIdx false .b0 .IX d none, rfl⟩
theorem res_0_atIXd_to_A (d : Byte) : Statement (.res_0_atIXd_to_A d) := ⟨.chgIdx false .b0 .IX d (some .A), rfl⟩
theorem res_1_atIXd_to_B (d : Byte) : Statement (.res_1_atIXd_to_B d) := ⟨.chgIdx false .b1 .IX d (some .B), rfl⟩
theorem res_1_atIXd_to_C (d : Byte) : Statement (.res_1_atIXd_to_C d) := ⟨.chgIdx false .b1 .IX d (some .C), rfl⟩
theorem res_1_atIXd_to_D (d : Byte) : Statement (.res_1_atIXd_to_D d) := ⟨.chgIdx false .b1 .IX d (some .D), rfl⟩
theorem res_1_atIXd_to_E (d : Byte) : Statement (.res_1_atIXd_to_E d) := ⟨.chgIdx false .b1 .IX d (some .E), rfl⟩
theorem res_1_atIXd_to_H (d : Byte) : Statement (.res_1_atIXd_to_H d) := ⟨.chgIdx false .b1 .IX d (some .H), rfl⟩
theorem res_1_atIXd_to_L (d : Byte) : Statement (.res_1_atIXd_to_L d) := ⟨.chgIdx false .b1 .IX d (some .L), rfl⟩
theorem res_1_atIXd (d : Byte) : Statement (.res_1_atIXd d) := ⟨.chgIdx false .b1 .IX d none, rfl⟩
theorem res_1_atIXd_to_A (d : Byte) : Statement (.res_1_atIXd_to_A d) := ⟨.chgIdx false .b1 .IX d (some .A), rfl⟩
theorem res_2_atIXd_to_B (d : Byte) : Statement (.res_2_atIXd_to_B d) := ⟨.chgIdx false .b2 .IX d (some .B), rfl⟩
theorem res_2_atIXd_to_C (d : Byte) : Statement (.res_2_atIXd_to_C d) := ⟨.chgIdx false .b2 .IX d (some .C), rfl⟩
theorem res_2_atIXd_to_D (d : Byte) : Statement (.res_2_atIXd_to_D d) := ⟨.chgIdx false .b2 .IX d (some .D), rfl⟩
theorem res_2_atIXd_to_E (d : Byte) : Statement (.res_2_atIXd_to_E d) := ⟨.chgIdx false .b2 .IX d (some .E), rfl⟩
theorem res_2_atIXd_to_H (d : Byte) : Statement (.res_2_atIXd_to_H d) := ⟨.chgIdx false .b2 .IX d (some .H), rfl⟩
theorem res_2_atIXd_to_L (d : Byte) : Statement (.res_2_atIXd_to_L d) := ⟨.chgIdx false .b2 .IX d (some .L), rfl⟩
theorem res_2_atIXd (d : Byte) : Statement (.res_2_atIXd d) := ⟨.chgIdx false .b2 .IX d none, rfl⟩
theorem res_2_atIXd_to_A (d : Byte) : Statement (.res_2_atIXd_to_A d) := ⟨.chgIdx false .b2 .IX d (some .A), rfl⟩
theorem res_3_atIXd_to_B (d : Byte) : Statement (.res_3_atIXd_to_B d) := ⟨.chgIdx false .b3 .IX d (some .B), rfl⟩
theorem res_3_atIXd_to_C (d : Byte) : Statement (.res_3_atIXd_to_C d) := ⟨.chgIdx false .b3 .IX d (some .C), rfl⟩
theorem res_3_atIXd_to_D (d : Byte) : Statement (.res_3_atIXd_to_D d) := ⟨.chgIdx false .b3 .IX d (some .D), rfl⟩
theorem res_3_atIXd_to_E (d : Byte) : Statement (.res_3_atIXd_to_E d) := ⟨.chgIdx false .b3 .IX d (some .E), rfl⟩
theorem res_3_atIXd_to_H (d : Byte) : Statement (.res_3_atIXd_to_H d) := ⟨.chgIdx false .b3 .IX d (some .H), rfl⟩
theorem res_3_atIXd_to_L (d : Byte) : Statement (.res_3_atIXd_to_L d) := ⟨.chgIdx false .b3 .IX d (some .L), rfl⟩
theorem res_3_atIXd (d : Byte) : Statement (.res_3_atIXd d) := ⟨.chgIdx false .b3 .IX d none, rfl⟩
theorem res_3_atIXd_to_A (d : Byte) : Statement (.res_3_atIXd_to_A d) := ⟨.chgIdx false .b3 .IX d (some .A), rfl⟩
theorem res_4_atIXd_to_B (d : Byte) : Statement (.res_4_atIXd_to_B d) := ⟨.chgIdx false .b4 .IX d (some .B), rfl⟩
theorem res_4_atIXd_to_C (d : Byte) : Statement (.res_4_atIXd_to_C d) := ⟨.chgIdx false .b4 .IX d (some .C), rfl⟩
theorem res_4_atIXd_to_D (d : Byte) : Statement (.res_4_atIXd_to_D d) := ⟨.chgIdx false .b4 .IX d (some .D), rfl⟩
theorem res_4_atIXd_to_E (d : Byte) : Statement (.res_4_atIXd_to_E d) := ⟨.chgIdx false .b4 .IX d (some .E), rfl⟩
theorem res_4_atIXd_to_H (d : Byte) : Statement (.res_4_atIXd_to_H d) := ⟨.chgIdx false .b4 .IX d (some .H), rfl⟩
theorem res_4_atIXd_to_L (d : Byte) : Statement (.res_4_atIXd_to_L d) := ⟨.chgIdx false .b4 .IX d (some .L), rfl⟩
theorem res_4_atIXd (d : Byte) : Statement (.res_4_atIXd d) := ⟨.chgIdx false .b4 .IX d none, rfl⟩
theorem res_4_atIXd_to_A (d : Byte) : Statement (.res_4_atIXd_to_A d) := ⟨.chgIdx false .b4 .IX d (some .A), rfl⟩
theorem res_5_atIXd_to_B (d : Byte) : Statement (.res_5_atIXd_to_B d) := ⟨.chgIdx false .b5 .IX d (some .B), rfl⟩
theorem res_5_atIXd_to_C (d : Byte) : Statement (.res_5_atIXd_to_C d) := ⟨.chgIdx false .b5 .IX d (some .C), rfl⟩
theorem res_5_atIXd_to_D (d : Byte) : Statement (.res_5_atIXd_to_D d) := ⟨.chgIdx false .b5 .IX d (some .D), rfl⟩
theorem res_5_atIXd_to_E (d : Byte) : Statement (.res_5_atIXd_to_E d) := ⟨.chgIdx false .b5 .IX d (some .E), rfl⟩
theorem res_5_atIXd_to_H (d : Byte) : Statement (.res_5_atIXd_to_H d) := ⟨.chgIdx false .b5 .IX d (some .H), rfl⟩
theorem res_5_atIXd_to_L (d : Byte) : Statement (.res_5_atIXd_to_L d) := ⟨.chgIdx false .b5 .IX d (some .L), rfl⟩
theorem res_5_atIXd (d : Byte) : Statement (.res_5_atIXd d) := ⟨.chgIdx false .b5 .IX d none, rfl⟩
theorem res_5_atIXd_to_A (d : Byte) : Statement (.res_5_atIXd_to_A d) := ⟨.chgIdx false .b5 .IX d (some .A), rfl⟩
theorem res_6_atIXd_to_B (d : Byte) : Statement (.res_6_atIXd_to_B d) := ⟨.chgIdx false .b6 .IX d (some .B), rfl⟩
theorem res_6_atIXd_to_C (d : Byte) : Statement (.res_6_atIXd_to_C d) := ⟨.chgIdx false .b6 .IX d (some .C), rfl⟩
theorem res_6_atIXd_to_D (d : Byte) : Statement (.res_6_atIXd_to_D d) := ⟨.chgIdx false .b6 .IX d (some .D), rfl⟩
theorem res_6_atIXd_to_E (d : Byte) : Statement (.res_6_atIXd_to_E d) := ⟨.chgIdx false .b6 .IX d (some .E), rfl⟩
theorem res_6_atIXd_to_H (d : Byte) : Statement (.res_6_atIXd_to_H d) := ⟨.chgIdx false .b6 .IX d (some .H), rfl⟩
theorem res_6_atIXd_to_L (d : Byte) : Statement (.res_6_atIXd_to_L d) := ⟨.chgIdx false .b6 .IX d (some .L), rfl⟩
theorem res_6_atIXd (d : Byte) : Statement (.res_6_atIXd d) := ⟨.chgIdx false .b6 .IX d none, rfl⟩
theorem res_6_atIXd_to_A (d : Byte) : Statement (.res_6_atIXd_to_A d) := ⟨.chgIdx false .b6 .IX d (some .A), rfl⟩
theorem res_7_atIXd_to_B (d : Byte) : Statement (.res_7_atIXd_to_B d) := ⟨.chgIdx false .b7 .IX d (some .B), rfl⟩
theorem res_7_atIXd_to_C (d : Byte) : Statement (.res_7_atIXd_to_C d) := ⟨.chgIdx false .b7 .IX d (some .C), rfl⟩
theorem res_7_atIXd_to_D (d : Byte) : Statement (.res_7_atIXd_to_D d) := ⟨.chgIdx false .b7 .IX d (some .D), rfl⟩
theorem res_7_atIXd_to_E (d : Byte) : Statement (.res_7_atIXd_to_E d) := ⟨.chgIdx false .b7 .IX d (some .E), rfl⟩
theorem res_7_atIXd_to_H (d : Byte) : Statement (.res_7_atIXd_to_H d) := ⟨.chgIdx false .b7 .IX d (some .H), rfl⟩
theorem res_7_atIXd_to_L (d : Byte) : Statement (.res_7_atIXd_to_L d) := ⟨.chgIdx false .b7 .IX d (some .L), rfl⟩
theorem res_7_atIXd (d : Byte) : Statement (.res_7_atIXd d) := ⟨.chgIdx false .b7 .IX d none, rfl⟩
theorem res_7_atIXd_to_A (d : Byte) : Statement (.res_7_atIXd_to_A d) := ⟨.chgIdx false .b7 .IX d (some .A), rfl⟩
theorem set_0_atIXd_to_B (d : Byte) : Statement (.set_0_atIXd_to_B d) := ⟨.chgIdx true .b0 .IX d (some .B), rfl⟩
theorem set_0_atIXd_to_C (d : Byte) : Statement (.set_0_atIXd_to_C d) := ⟨.chgIdx true .b0 .IX d (some .C), rfl⟩
theorem set_0_atIXd_to_D (d : Byte) : Statement (.set_0_atIXd_to_D d) := ⟨.chgIdx true .b0 .IX d (some .D), rfl⟩
theorem set_0_atIXd_to_E (d : Byte) : Statement (.set_0_atIXd_to_E d) := ⟨.chgIdx true .b0 .IX d (some .E), rfl⟩
theorem set_0_atIXd_to_H (d : Byte) : Statement (.set_0_atIXd_to_H d) := ⟨.chgIdx true .b0 .IX d (some .H), rfl⟩
theorem set_0_atIXd_to_L (d : Byte) : Statement (.set_0_atIXd_to_L d) := ⟨.chgIdx true .b0 .IX d (some .L), rfl⟩
theorem set_0_atIXd (d : Byte) : Statement (.set_0_atIXd d) := ⟨.chgIdx true .b0 .IX d none, rfl⟩
theorem set_0_atIXd_to_A (d : Byte) : Statement (.set_0_atIXd_to_A d) := ⟨.chgIdx true .b0 .IX d (some .A), rfl⟩
theorem set_1_atIXd_to_B (d : Byte) : Statement (.set_1_atIXd_to_B d) := ⟨.chgIdx true .b1 .IX d (some .B), rfl⟩
theorem set_1_atIXd_to_C (d : Byte) : Statement (.set_1_atIXd_to_C d) := ⟨.chgIdx true .b1 .IX d (some .C), rfl⟩
theorem set_1_atIXd_to_D (d : Byte) : Statement (.set_1_atIXd_to_D d) := ⟨.chgIdx true .b1 .IX d (some .D), rfl⟩
theorem set_1_atIXd_to_E (d : Byte) : Statement (.set_1_atIXd_to_E d) := ⟨.chgIdx true .b1 .IX d (some .E), rfl⟩
theorem set_1_atIXd_to_H (d : Byte) : Statement (.set_1_atIXd_to_H d) := ⟨.chgIdx true .b1 .IX d (some .H), rfl⟩
theorem set_1_atIXd_to_L (d : Byte) : Statement (.set_1_atIXd_to_L d) := ⟨.chgIdx true .b1 .IX d (some .L), rfl⟩
theorem set_1_atIXd (d : Byte) : Statement (.set_1_atIXd d) := ⟨.chgIdx true .b1 .IX d none, rfl⟩
theorem set_1_atIXd_to_A (d : Byte) : Statement (.set_1_atIXd_to_A d) := ⟨.chgIdx true .b1 .IX d (some .A), rfl⟩
theorem set_2_atIXd_to_B (d : Byte) : Statement (.set_2_atIXd_to_B d) := ⟨.chgIdx true .b2 .IX d (some .B), rfl⟩
theorem set_2_atIXd_to_C (d : Byte) : Statement (.set_2_atIXd_to_C d) := ⟨.chgIdx true .b2 .IX d (some .C), rfl⟩
theorem set_2_atIXd_to_D (d : Byte) : Statement (.set_2_atIXd_to_D d) := ⟨.chgIdx true .b2 .IX d (some .D), rfl⟩
theorem set_2_atIXd_to_E (d : Byte) : Statement (.set_2_atIXd_to_E d) := ⟨.chgIdx true .b2 .IX d (some .E), rfl⟩
theorem set_2_atIXd_to_H (d : Byte) : Statement (.set_2_atIXd_to_H d) := ⟨.chgIdx true .b2 .IX d (some .H), rfl⟩
theorem set_2_atIXd_to_L (d : Byte) : Statement (.set_2_atIXd_to_L d) := ⟨.chgIdx true .b2 .IX d (some .L), rfl⟩
theorem set_2_atIXd (d : Byte) : Statement (.set_2_atIXd d) := ⟨.chgIdx true .b2 .IX d none, rfl⟩
theorem set_2_atIXd_to_A (d : Byte) : Statement (.set_2_atIXd_to_A d) := ⟨.chgIdx true .b2 .IX d (some .A), rfl⟩
theorem set_3_atIXd_to_B (d : Byte) : Statement (.set_3_atIXd_to_B d) := ⟨.chgIdx true .b3 .IX d (some .B), rfl⟩
theorem set_3_atIXd_to_C (d : Byte) : Statement (.set_3_atIXd_to_C d) := ⟨.chgIdx true .b3 .IX d (some .C), rfl⟩
theorem set_3_atIXd_to_D (d : Byte) : Statement (.set_3_atIXd_to_D d) := ⟨.chgIdx true .b3 .IX d (some .D), rfl⟩
theorem set_3_atIXd_to_E (d : Byte) : Statement (.set_3_atIXd_to_E d) := ⟨.chgIdx true .b3 .IX d (some .E), rfl⟩
theorem set_3_atIXd_to_H (d : Byte) : Statement (.set_3_atIXd_to_H d) := ⟨.chgIdx true .b3 .IX d (some .H), rfl⟩
theorem set_3_atIXd_to_L (d : Byte) : Statement (.set_3_atIXd_to_L d) := ⟨.chgIdx true .b3 .IX d (some .L), rfl⟩
theorem set_3_atIXd (d : Byte) : Statement (.set_3_atIXd d) := ⟨.chgIdx true .b3 .IX d none, rfl⟩
theorem set_3_atIXd_to_A (d : Byte) : Statement (.set_3_atIXd_to_A d) := ⟨.chgIdx true .b3 .IX d (some .A), rfl⟩
theorem set_4_atIXd_to_B (d : Byte) : Statement (.set_4_atIXd_to_B d) := ⟨.chgIdx true .b4 .IX d (some .B), rfl⟩
theorem set_4_atIXd_to_C (d : Byte) : Statement (.set_4_atIXd_to_C d) := ⟨.chgIdx true .b4 .IX d (some .C), rfl⟩
theorem set_4_atIXd_to_D (d : Byte) : Statement (.set_4_atIXd_to_D d) := ⟨.chgIdx true .b4 .IX d (some .D), rfl⟩
theorem set_4_atIXd_to_E (d : Byte) : Statement (.set_4_atIXd_to_E d) := ⟨.chgIdx true .b4 .IX d (some .E), rfl⟩
theorem set_4_atIXd_to_H (d : Byte) : Statement (.set_4_atIXd_to_H d) := ⟨.chgIdx true .b4 .IX d (some .H), rfl⟩
theorem set_4_atIXd_to_L (d : Byte) : Statement (.set_4_atIXd_to_L d) := ⟨.chgIdx true .b4 .IX d (some .L), rfl⟩
theorem set_4_atIXd (d : Byte) : Statement (.set_4_atIXd d) := ⟨.chgIdx true .b4 .IX d none, rfl⟩
theorem set_4_atIXd_to_A (d : Byte) : Statement (.set_4_atIXd_to_A d) := ⟨.chgIdx true .b4 .IX d (some .A), rfl⟩
theorem set_5_atIXd_to_B (d : Byte) : Statement (.set_5_atIXd_to_B d) := ⟨.chgIdx true .b5 .IX d (some .B), rfl⟩
theorem set_5_atIXd_to_C (d : Byte) : Statement (.set_5_atIXd_to_C d) := ⟨.chgIdx true .b5 .IX d (some .C), rfl⟩
theorem set_5_atIXd_to_D (d : Byte) : Statement (.set_5_atIXd_to_D d) := ⟨.chgIdx true .b5 .IX d (some .D), rfl⟩
theorem set_5_atIXd_to_E (d : Byte) : Statement (.set_5_atIXd_to_E d) := ⟨.chgIdx true .b5 .IX d (some .E), rfl⟩
theorem set_5_atIXd_to_H (d : Byte) : Statement (.set_5_atIXd_to_H d) := ⟨.chgIdx true .b5 .IX d (some .H), rfl⟩
theorem set_5_atIXd_to_L (d : Byte) : Statement (.set_5_atIXd_to_L d) := ⟨.chgIdx true .b5 .IX d (some .L), rfl⟩
theorem set_5_atIXd (d : Byte) : Statement (.set_5_atIXd d) := ⟨.chgIdx true .b5 .IX d none, rfl⟩
theorem set_5_atIXd_to_A (d : Byte) : Statement (.set_5_atIXd_to_A d) := ⟨.chgIdx true .b5 .IX d (some .A), rfl⟩
theorem set_6_atIXd_to_B (d : Byte) : Statement (.set_6_atIXd_to_B d) := ⟨.chgIdx true .b6 .IX d (some .B), rfl⟩
theorem set_6_atIXd_to_C (d : Byte) : Statement (.set_6_atIXd_to_C d) := ⟨.chgIdx true .b6 .IX d (some .C), rfl⟩
theorem set_6_atIXd_to_D (d : Byte) : Statement (.set_6_atIXd_to_D d) := ⟨.chgIdx true .b6 .IX d (some .D), rfl⟩
theorem set_6_atIXd_to_E (d : Byte) : Statement (.set_6_atIXd_to_E d) := ⟨.chgIdx true .b6 .IX d (some .E), rfl⟩
theorem set_6_atIXd_to_H (d : Byte) : Statement (.set_6_atIXd_to_H d) := ⟨.chgIdx true .b6 .IX d (some .H), rfl⟩
theorem set_6_atIXd_to_L (d : Byte) : Statement (.set_6_atIXd_to_L d) := ⟨.chgIdx true .b6 .IX d (some .L), rfl⟩
theorem set_6_atIXd (d : Byte) : Statement (.set_6_atIXd d) := ⟨.chgIdx true .b6 .IX d none, rfl⟩
theorem set_6_atIXd_to_A (d : Byte) : Statement (.set_6_atIXd_to_A d) := ⟨.chgIdx true .b6 .IX d (some .A), rfl⟩
theorem set_7_atIXd_to_B (d : Byte) : Statement (.set_7_atIXd_to_B d) := ⟨.chgIdx true .b7 .IX d (some .B), rfl⟩
theorem set_7_atIXd_to_C (d : Byte) : Statement (.set_7_atIXd_to_C d) := ⟨.chgIdx true .b7 .IX d (some .C), rfl⟩
theorem set_7_atIXd_to_D (d : Byte) : Statement (.set_7_atIXd_to_D d) := ⟨.chgIdx true .b7 .IX d (some .D), rfl⟩
theorem set_7_atIXd_to_E (d : Byte) : Statement (.set_7_atIXd_to_E d) := ⟨.chgIdx true .b7 .IX d (some .E), rfl⟩
theorem set_7_atIXd_to_H (d : Byte) : Statement (.set_7_atIXd_to_H d) := ⟨.chgIdx true .b7 .IX d (some .H), rfl⟩
theorem set_7_atIXd_to_L (d : Byte) : Statement (.set_7_atIXd_to_L d) := ⟨.chgIdx true .b7 .IX d (some .L), rfl⟩
theorem set_7_atIXd (d : Byte) : Statement (.set_7_atIXd d) := ⟨.chgIdx true .b7 .IX d none, rfl⟩
theorem set_7_atIXd_to_A (d : Byte) : Statement (.set_7_atIXd_to_A d) := ⟨.chgIdx true .b7 .IX d (some .A), rfl⟩
theorem pop_IX : Statement (.pop_IX) := ⟨.popIndex .IX, rfl⟩
theorem ex_atSP_IX : Statement (.ex_atSP_IX) := ⟨.exSpIndex .IX, rfl⟩
theorem push_IX : Statement (.push_IX) := ⟨.pushIndex .IX, rfl⟩
theorem jp_atIX : Statement (.jp_atIX) := ⟨.jpIndex .IX, rfl⟩
theorem ld_SP_IX : Statement (.ld_SP_IX) := ⟨.ldSpIndex .IX, rfl⟩
theorem add_IY_BC : Statement (.add_IY_BC) := ⟨.addIndex .IY .BC, rfl⟩
theorem add_IY_DE : Statement (.add_IY_DE) := ⟨.addIndex .IY .DE, rfl⟩
theorem ld_IY_nn (nn : Word) : Statement (.ld_IY_nn nn) := ⟨.ldIndexImm .IY nn, rfl⟩
theorem ld_atnn_IY (nn : Word) : Statement (.ld_atnn_IY nn) := ⟨.ldAbsIndex .IY nn, rfl⟩
theorem inc_IY : Statement (.inc_IY) := ⟨.incIndex .IY, rfl⟩
theorem inc_IYH : Statement (.inc_IYH) := ⟨.incHalf .IY .H, rfl⟩
theorem dec_IYH : Statement (.dec_IYH) := ⟨.decHalf .IY .H, rfl⟩
theorem ld_IYH_n (n : Byte) : Statement (.ld_IYH_n n) := ⟨.ldHalfImm .IY .H n, rfl⟩
theorem add_IY_IY : Statement (.add_IY_IY) := ⟨.addIndex .IY .XY, rfl⟩
theorem ld_IY_atnn (nn : Word) : Statement (.ld_IY_atnn nn) := ⟨.ldIndexAbs .IY nn, rfl⟩
theorem dec_IY : Statement (.dec_IY) := ⟨.decIndex .IY, rfl⟩
theorem inc_IYL : Statement (.inc_IYL) := ⟨.incHalf .IY .L, rfl⟩
theorem dec_IYL : Statement (.dec_IYL) := ⟨.decHalf .IY .L, rfl⟩
theorem ld_IYL_n (n : Byte) : Statement (.ld_IYL_n n) := ⟨.ldHalfImm .IY .L n, rfl⟩
theorem inc_atIYd (d : Byte) : Statement (.inc_atIYd d) := ⟨.incIdx .IY d, rfl⟩
theorem dec_atIYd (d : Byte) : Statement (.dec_atIYd d) := ⟨.decIdx .IY d, rfl⟩
theorem ld_atIYd_n (d : Byte) (n : Byte) : Statement (.ld_atIYd_n d n) := ⟨.ldIdxImm .IY d n, rfl⟩
theorem add_IY_SP : Statement (.add_IY_SP) := ⟨.addIndex .IY .SP, rfl⟩
theorem ld_B_IYH : Statement (.ld_B_IYH) := ⟨.ldRegHalf .B .IY .H, rfl⟩
theorem ld_B_IYL : Statement (.ld_B_IYL) := ⟨.ldRegHalf .B .IY .L, rfl⟩
theorem ld_B_atIYd (d : Byte) : Statement (.ld_B_atIYd d) := ⟨.ldRegIdx .B .IY d, rfl⟩
theorem ld_C_IYH : Statement (.ld_C_IYH) := ⟨.ldRegHalf .C .IY .H, rfl⟩
theorem ld_C_IYL : Statement (.ld_C_IYL) := ⟨.ldRegHalf .C .IY .L, rfl⟩
theorem ld_C_atIYd (d : Byte) : Statement (.ld_C_atIYd d) := ⟨.ldRegIdx .C .IY d, rfl⟩
theorem ld_D_IYH : Statement (.ld_D_IYH) := ⟨.ldRegHalf .D .IY .H, rfl⟩
theorem ld_D_IYL : Statement (.ld_D_IYL) := ⟨.ldRegHalf .D .IY .L, rfl⟩
theorem ld_D_atIYd (d : Byte) : Statement (.ld_D_atIYd d) := ⟨.ldRegIdx .D .IY d, rfl⟩
theorem ld_E_IYH : Statement (.ld_E_IYH) := ⟨.ldRegHalf .E .IY .H, rfl⟩
theorem ld_E_IYL : Statement (.ld_E_IYL) := ⟨.ldRegHalf .E .IY .L, rfl⟩
theorem ld_E_atIYd (d : Byte) : Statement (.ld_E_atIYd d) := ⟨.ldRegIdx .E .IY d, rfl⟩
theorem ld_IYH_B : Statement (.ld_IYH_B) := ⟨.ldHalfReg .IY .H .B, rfl⟩
theorem ld_IYH_C : Statement (.ld_IYH_C) := ⟨.ldHalfReg .IY .H .C, rfl⟩
theorem ld_IYH_D : Statement (.ld_IYH_D) := ⟨.ldHalfReg .IY .H .D, rfl⟩
theorem ld_IYH_E : Statement (.ld_IYH_E) := ⟨.ldHalfReg .IY .H .E, rfl⟩
theorem ld_IYH_IYH : Statement (.ld_IYH_IYH) := ⟨.ldHalfHalf .IY .H .H, rfl⟩
theorem ld_IYH_IYL : Statement (.ld_IYH_IYL) := ⟨.ldHalfHalf .IY .H .L, rfl⟩
theorem ld_H_atIYd (d : Byte) : Statement (.ld_H_atIYd d) := ⟨.ldRegIdx .H .IY d, rfl⟩
theorem ld_IYH_A : Statement (.ld_IYH_A) := ⟨.ldHalfReg .IY .H .A, rfl⟩
theorem ld_IYL_B : Statement (.ld_IYL_B) := ⟨.ldHalfReg .IY .L .B, rfl⟩
theorem ld_IYL_C : Statement (.ld_IYL_C) := ⟨.ldHalfReg .IY .L .C, rfl⟩
theorem ld_IYL_D : Statement (.ld_IYL_D) := ⟨.ldHalfReg .IY .L .D, rfl⟩
theorem ld_IYL_E : Statement (.ld_IYL_E) := ⟨.ldHalfReg .IY .L .E, rfl⟩
theorem ld_IYL_IYH : Statement (.ld_IYL_IYH) := ⟨.ldHalfHalf .IY .L .H, rfl⟩
theorem ld_IYL_IYL : Statement (.ld_IYL_IYL) := ⟨.ldHalfHalf .IY .L .L, rfl⟩
theorem ld_L_atIYd (d : Byte) : Statement (.ld_L_atIYd d) := ⟨.ldRegIdx .L .IY d, rfl⟩
theorem ld_IYL_A : Statement (.ld_IYL_A) := ⟨.ldHalfReg .IY .L .A, rfl⟩
theorem ld_atIYd_B (d : Byte) : Statement (.ld_atIYd_B d) := ⟨.ldIdxReg .IY d .B, rfl⟩
theorem ld_atIYd_C (d : Byte) : Statement (.ld_atIYd_C d) := ⟨.ldIdxReg .IY d .C, rfl⟩
theorem ld_atIYd_D (d : Byte) : Statement (.ld_atIYd_D d) := ⟨.ldIdxReg .IY d .D, rfl⟩
theorem ld_atIYd_E (d : Byte) : Statement (.ld_atIYd_E d) := ⟨.ldIdxReg .IY d .E, rfl⟩
theorem ld_atIYd_H (d : Byte) : Statement (.ld_atIYd_H d) := ⟨.ldIdxReg .IY d .H, rfl⟩
theorem ld_atIYd_L (d : Byte) : Statement (.ld_atIYd_L d) := ⟨.ldIdxReg .IY d .L, rfl⟩
theorem ld_atIYd_A (d : Byte) : Statement (.ld_atIYd_A d) := ⟨.ldIdxReg .IY d .A, rfl⟩
theorem ld_A_IYH : Statement (.ld_A_IYH) := ⟨.ldRegHalf .A .IY .H, rfl⟩
theorem ld_A_IYL : Statement (.ld_A_IYL) := ⟨.ldRegHalf .A .IY .L, rfl⟩
theorem ld_A_atIYd (d : Byte) : Statement (.ld_A_atIYd d) := ⟨.ldRegIdx .A .IY d, rfl⟩
theorem add_A_IYH : Statement (.add_A_IYH) := ⟨.aluHalf .add .IY .H, rfl⟩
theorem add_A_IYL : Statement (.add_A_IYL) := ⟨.aluHalf .add .IY .L, rfl⟩
theorem add_A_atIYd (d : Byte) : Statement (.add_A_atIYd d) := ⟨.aluIdx .add .IY d, rfl⟩
theorem adc_A_IYH : Statement (.adc_A_IYH) := ⟨.aluHalf .adc .IY .H, rfl⟩
theorem adc_A_IYL : Statement (.adc_A_IYL) := ⟨.aluHalf .adc .IY .L, rfl⟩
theorem adc_A_atIYd (d : Byte) : Statement (.adc_A_atIYd d) := ⟨.aluIdx .adc .IY d, rfl⟩
theorem sub_IYH : Statement (.sub_IYH) := ⟨.aluHalf .sub .IY .H, rfl⟩
theorem sub_IYL : Statement (.sub_IYL) := ⟨.aluHalf .sub .IY .L, rfl⟩
theorem sub_atIYd (d : Byte) : Statement (.sub_atIYd d) := ⟨.aluIdx .sub .IY d, rfl⟩
theorem sbc_A_IYH : Statement (.sbc_A_IYH) := ⟨.aluHalf .sbc .IY .H, rfl⟩
theorem sbc_A_IYL : Statement (.sbc_A_IYL) := ⟨.aluHalf .sbc .IY .L, rfl⟩
theorem sbc_A_atIYd (d : Byte) : Statement (.sbc_A_atIYd d) := ⟨.aluIdx .sbc .IY d, rfl⟩
theorem and_IYH : Statement (.and_IYH) := ⟨.aluHalf .and .IY .H, rfl⟩
theorem and_IYL : Statement (.and_IYL) := ⟨.aluHalf .and .IY .L, rfl⟩
theorem and_atIYd (d : Byte) : Statement (.and_atIYd d) := ⟨.aluIdx .and .IY d, rfl⟩
theorem xor_IYH : Statement (.xor_IYH) := ⟨.aluHalf .xor .IY .H, rfl⟩
theorem xor_IYL : Statement (.xor_IYL) := ⟨.aluHalf .xor .IY .L, rfl⟩
theorem xor_atIYd (d : Byte) : Statement (.xor_atIYd d) := ⟨.aluIdx .xor .IY d, rfl⟩
theorem or_IYH : Statement (.or_IYH) := ⟨.aluHalf .or .IY .H, rfl⟩
theorem or_IYL : Statement (.or_IYL) := ⟨.aluHalf .or .IY .L, rfl⟩
theorem or_atIYd (d : Byte) : Statement (.or_atIYd d) := ⟨.aluIdx .or .IY d, rfl⟩
theorem cp_IYH : Statement (.cp_IYH) := ⟨.aluHalf .cp .IY .H, rfl⟩
theorem cp_IYL : Statement (.cp_IYL) := ⟨.aluHalf .cp .IY .L, rfl⟩
theorem cp_atIYd (d : Byte) : Statement (.cp_atIYd d) := ⟨.aluIdx .cp .IY d, rfl⟩
theorem rlc_atIYd_to_B (d : Byte) : Statement (.rlc_atIYd_to_B d) := ⟨.rotIdx .rlc .IY d (some .B), rfl⟩
theorem rlc_atIYd_to_C (d : Byte) : Statement (.rlc_atIYd_to_C d) := ⟨.rotIdx .rlc .IY d (some .C), rfl⟩
theorem rlc_atIYd_to_D (d : Byte) : Statement (.rlc_atIYd_to_D d) := ⟨.rotIdx .rlc .IY d (some .D), rfl⟩
theorem rlc_atIYd_to_E (d : Byte) : Statement (.rlc_atIYd_to_E d) := ⟨.rotIdx .rlc .IY d (some .E), rfl⟩
theorem rlc_atIYd_to_H (d : Byte) : Statement (.rlc_atIYd_to_H d) := ⟨.rotIdx .rlc .IY d (some .H), rfl⟩
theorem rlc_atIYd_to_L (d : Byte) : Statement (.rlc_atIYd_to_L d) := ⟨.rotIdx .rlc .IY d (some .L), rfl⟩
theorem rlc_atIYd (d : Byte) : Statement (.rlc_atIYd d) := ⟨.rotIdx .rlc .IY d none, rfl⟩
theorem rlc_atIYd_to_A (d : Byte) : Statement (.rlc_atIYd_to_A d) := ⟨.rotIdx .rlc .IY d (some .A), rfl⟩
theorem rrc_atIYd_to_B (d : Byte) : Statement (.rrc_atIYd_to_B d) := ⟨.rotIdx .rrc .IY d (some .B), rfl⟩
theorem rrc_atIYd_to_C (d : Byte) : Statement (.rrc_atIYd_to_C d) := ⟨.rotIdx .rrc .IY d (some .C), rfl⟩
theorem rrc_atIYd_to_D (d : Byte) : Statement (.rrc_atIYd_to_D d) := ⟨.rotIdx .rrc .IY d (some .D), rfl⟩
theorem rrc_atIYd_to_E (d : Byte) : Statement (.rrc_atIYd_to_E d) := ⟨.rotIdx .rrc .IY d (some .E), rfl⟩
theorem rrc_atIYd_to_H (d : Byte) : Statement (.rrc_atIYd_to_H d) := ⟨.rotIdx .rrc .IY d (some .H), rfl⟩
theorem rrc_atIYd_to_L (d : Byte) : Statement (.rrc_atIYd_to_L d) := ⟨.rotIdx .rrc .IY d (some .L), rfl⟩
theorem rrc_atIYd (d : Byte) : Statement (.rrc_atIYd d) := ⟨.rotIdx .rrc .IY d none, rfl⟩
theorem rrc_atIYd_to_A (d : Byte) : Statement (.rrc_atIYd_to_A d) := ⟨.rotIdx .rrc .IY d (some .A), rfl⟩
theorem rl_atIYd_to_B (d : Byte) : Statement (.rl_atIYd_to_B d) := ⟨.rotIdx .rl .IY d (some .B), rfl⟩
theorem rl_atIYd_to_C (d : Byte) : Statement (.rl_atIYd_to_C d) := ⟨.rotIdx .rl .IY d (some .C), rfl⟩
theorem rl_atIYd_to_D (d : Byte) : Statement (.rl_atIYd_to_D d) := ⟨.rotIdx .rl .IY d (some .D), rfl⟩
theorem rl_atIYd_to_E (d : Byte) : Statement (.rl_atIYd_to_E d) := ⟨.rotIdx .rl .IY d (some .E), rfl⟩
theorem rl_atIYd_to_H (d : Byte) : Statement (.rl_atIYd_to_H d) := ⟨.rotIdx .rl .IY d (some .H), rfl⟩
theorem rl_atIYd_to_L (d : Byte) : Statement (.rl_atIYd_to_L d) := ⟨.rotIdx .rl .IY d (some .L), rfl⟩
theorem rl_atIYd (d : Byte) : Statement (.rl_atIYd d) := ⟨.rotIdx .rl .IY d none, rfl⟩
theorem rl_atIYd_to_A (d : Byte) : Statement (.rl_atIYd_to_A d) := ⟨.rotIdx .rl .IY d (some .A), rfl⟩
theorem rr_atIYd_to_B (d : Byte) : Statement (.rr_atIYd_to_B d) := ⟨.rotIdx .rr .IY d (some .B), rfl⟩
theorem rr_atIYd_to_C (d : Byte) : Statement (.rr_atIYd_to_C d) := ⟨.rotIdx .rr .IY d (some .C), rfl⟩
theorem rr_atIYd_to_D (d : Byte) : Statement (.rr_atIYd_to_D d) := ⟨.rotIdx .rr .IY d (some .D), rfl⟩
theorem rr_atIYd_to_E (d : Byte) : Statement (.rr_atIYd_to_E d) := ⟨.rotIdx .rr .IY d (some .E), rfl⟩
theorem rr_atIYd_to_H (d : Byte) : Statement (.rr_atIYd_to_H d) := ⟨.rotIdx .rr .IY d (some .H), rfl⟩
theorem rr_atIYd_to_L (d : Byte) : Statement (.rr_atIYd_to_L d) := ⟨.rotIdx .rr .IY d (some .L), rfl⟩
theorem rr_atIYd (d : Byte) : Statement (.rr_atIYd d) := ⟨.rotIdx .rr .IY d none, rfl⟩
theorem rr_atIYd_to_A (d : Byte) : Statement (.rr_atIYd_to_A d) := ⟨.rotIdx .rr .IY d (some .A), rfl⟩
theorem sla_atIYd_to_B (d : Byte) : Statement (.sla_atIYd_to_B d) := ⟨.rotIdx .sla .IY d (some .B), rfl⟩
theorem sla_atIYd_to_C (d : Byte) : Statement (.sla_atIYd_to_C d) := ⟨.rotIdx .sla .IY d (some .C), rfl⟩
theorem sla_atIYd_to_D (d : Byte) : Statement (.sla_atIYd_to_D d) := ⟨.rotIdx .sla .IY d (some .D), rfl⟩
theorem sla_atIYd_to_E (d : Byte) : Statement (.sla_atIYd_to_E d) := ⟨.rotIdx .sla .IY d (some .E), rfl⟩
theorem sla_atIYd_to_H (d : Byte) : Statement (.sla_atIYd_to_H d) := ⟨.rotIdx .sla .IY d (some .H), rfl⟩
theorem sla_atIYd_to_L (d : Byte) : Statement (.sla_atIYd_to_L d) := ⟨.rotIdx .sla .IY d (some .L), rfl⟩
theorem sla_atIYd (d : Byte) : Statement (.sla_atIYd d) := ⟨.rotIdx .sla .IY d none, rfl⟩
theorem sla_atIYd_to_A (d : Byte) : Statement (.sla_atIYd_to_A d) := ⟨.rotIdx .sla .IY d (some .A), rfl⟩
theorem sra_atIYd_to_B (d : Byte) : Statement (.sra_atIYd_to_B d) := ⟨.rotIdx .sra .IY d (some .B), rfl⟩
theorem sra_atIYd_to_C (d : Byte) : Statement (.sra_atIYd_to_C d) := ⟨.rotIdx .sra .IY d (some .C), rfl⟩
theorem sra_atIYd_to_D (d : Byte) : Statement (.sra_atIYd_to_D d) := ⟨.rotIdx .sra .IY d (some .D), rfl⟩
theorem sra_atIYd_to_E (d : Byte) : Statement (.sra_atIYd_to_E d) := ⟨.rotIdx .sra .IY d (some .E), rfl⟩
theorem sra_atIYd_to_H (d : Byte) : Statement (.sra_atIYd_to_H d) := ⟨.rotIdx .sra .IY d (some .H), rfl⟩
theorem sra_atIYd_to_L (d : Byte) : Statement (.sra_atIYd_to_L d) := ⟨.rotIdx .sra .IY d (some .L), rfl⟩
theorem sra_atIYd (d : Byte) : Statement (.sra_atIYd d) := ⟨.rotIdx .sra .IY d none, rfl⟩
theorem sra_atIYd_to_A (d : Byte) : Statement (.sra_atIYd_to_A d) := ⟨.rotIdx .sra .IY d (some .A), rfl⟩
theorem sll_atIYd_to_B (d : Byte) : Statement (.sll_atIYd_to_B d) := ⟨.rotIdx .sll .IY d (some .B), rfl⟩
theorem sll_atIYd_to_C (d : Byte) : Statement (.sll_atIYd_to_C d) := ⟨.rotIdx .sll .IY d (some .C), rfl⟩
theorem sll_atIYd_to_D (d : Byte) : Statement (.sll_atIYd_to_D d) := ⟨.rotIdx .sll .IY d (some .D), rfl⟩
theorem sll_atIYd_to_E (d : Byte) : Statement (.sll_atIYd_to_E d) := ⟨.rotIdx .sll .IY d (some .E), rfl⟩
theorem sll_atIYd_to_H (d : Byte) : Statement (.sll_atIYd_to_H d) := ⟨.rotIdx .sll .IY d (some .H), rfl⟩
theorem sll_atIYd_to_L (d : Byte) : Statement (.sll_atIYd_to_L d) := ⟨.rotIdx .sll .IY d (some .L), rfl⟩
theorem sll_atIYd (d : Byte) : Statement (.sll_atIYd d) := ⟨.rotIdx .sll .IY d none, rfl⟩
theorem sll_atIYd_to_A (d : Byte) : Statement (.sll_atIYd_to_A d) := ⟨.rotIdx .sll .IY d (some .A), rfl⟩
theorem srl_atIYd_to_B (d : Byte) : Statement (.srl_atIYd_to_B d) := ⟨.rotIdx .srl .IY d (some .B), rfl⟩
theorem srl_atIYd_to_C (d : Byte) : Statement (.srl_atIYd_to_C d) := ⟨.rotIdx .srl .IY d (some .C), rfl⟩
theorem srl_atIYd_to_D (d : Byte) : Statement (.srl_atIYd_to_D d) := ⟨.rotIdx .srl .IY d (some .D), rfl⟩
theorem srl_atIYd_to_E (d : Byte) : Statement (.srl_atIYd_to_E d) := ⟨.rotIdx .srl .IY d (some .E), rfl⟩
theorem srl_atIYd_to_H (d : Byte) : Statement (.srl_atIYd_to_H d) := ⟨.rotIdx .srl .IY d (some .H), rfl⟩
theorem srl_atIYd_to_L (d : Byte) : Statement (.srl_atIYd_to_L d) := ⟨.rotIdx .srl .IY d (some .L), rfl⟩
theorem srl_atIYd (d : Byte) : Statement (.srl_atIYd d) := ⟨.rotIdx .srl .IY d none, rfl⟩
theorem srl_atIYd_to_A (d : Byte) : Statement (.srl_atIYd_to_A d) := ⟨.rotIdx .srl .IY d (some .A), rfl⟩
theorem bit_0_atIYd (d : Byte) (z : BitVec 3) : Statement (.bit_0_atIYd d z) := ⟨.bitIdx .b0 .IY d z, rfl⟩
theorem bit_1_atIYd (d : Byte) (z : BitVec 3) : Statement (.bit_1_atIYd d z) := ⟨.bitIdx .b1 .IY d z, rfl⟩
theorem bit_2_atIYd (d : Byte) (z : BitVec 3) : Statement (.bit_2_atIYd d z) := ⟨.bitIdx .b2 .IY d z, rfl⟩
theorem bit_3_atIYd (d : Byte) (z : BitVec 3) : Statement (.bit_3_atIYd d z) := ⟨.bitIdx .b3 .IY d z, rfl⟩
theorem bit_4_atIYd (d : Byte) (z : BitVec 3) : Statement (.bit_4_atIYd d z) := ⟨.bitIdx .b4 .IY d z, rfl⟩
theorem bit_5_atIYd (d : Byte) (z : BitVec 3) : Statement (.bit_5_atIYd d z) := ⟨.bitIdx .b5 .IY d z, rfl⟩
theorem bit_6_atIYd (d : Byte) (z : BitVec 3) : Statement (.bit_6_atIYd d z) := ⟨.bitIdx .b6 .IY d z, rfl⟩
theorem bit_7_atIYd (d : Byte) (z : BitVec 3) : Statement (.bit_7_atIYd d z) := ⟨.bitIdx .b7 .IY d z, rfl⟩
theorem res_0_atIYd_to_B (d : Byte) : Statement (.res_0_atIYd_to_B d) := ⟨.chgIdx false .b0 .IY d (some .B), rfl⟩
theorem res_0_atIYd_to_C (d : Byte) : Statement (.res_0_atIYd_to_C d) := ⟨.chgIdx false .b0 .IY d (some .C), rfl⟩
theorem res_0_atIYd_to_D (d : Byte) : Statement (.res_0_atIYd_to_D d) := ⟨.chgIdx false .b0 .IY d (some .D), rfl⟩
theorem res_0_atIYd_to_E (d : Byte) : Statement (.res_0_atIYd_to_E d) := ⟨.chgIdx false .b0 .IY d (some .E), rfl⟩
theorem res_0_atIYd_to_H (d : Byte) : Statement (.res_0_atIYd_to_H d) := ⟨.chgIdx false .b0 .IY d (some .H), rfl⟩
theorem res_0_atIYd_to_L (d : Byte) : Statement (.res_0_atIYd_to_L d) := ⟨.chgIdx false .b0 .IY d (some .L), rfl⟩
theorem res_0_atIYd (d : Byte) : Statement (.res_0_atIYd d) := ⟨.chgIdx false .b0 .IY d none, rfl⟩
theorem res_0_atIYd_to_A (d : Byte) : Statement (.res_0_atIYd_to_A d) := ⟨.chgIdx false .b0 .IY d (some .A), rfl⟩
theorem res_1_atIYd_to_B (d : Byte) : Statement (.res_1_atIYd_to_B d) := ⟨.chgIdx false .b1 .IY d (some .B), rfl⟩
theorem res_1_atIYd_to_C (d : Byte) : Statement (.res_1_atIYd_to_C d) := ⟨.chgIdx false .b1 .IY d (some .C), rfl⟩
theorem res_1_atIYd_to_D (d : Byte) : Statement (.res_1_atIYd_to_D d) := ⟨.chgIdx false .b1 .IY d (some .D), rfl⟩
theorem res_1_atIYd_to_E (d : Byte) : Statement (.res_1_atIYd_to_E d) := ⟨.chgIdx false .b1 .IY d (some .E), rfl⟩
theorem res_1_atIYd_to_H (d : Byte) : Statement (.res_1_atIYd_to_H d) := ⟨.chgIdx false .b1 .IY d (some .H), rfl⟩
theorem res_1_atIYd_to_L (d : Byte) : Statement (.res_1_atIYd_to_L d) := ⟨.chgIdx false .b1 .IY d (some .L), rfl⟩
theorem res_1_atIYd (d : Byte) : Statement (.res_1_atIYd d) := ⟨.chgIdx false .b1 .IY d none, rfl⟩
theorem res_1_atIYd_to_A (d : Byte) : Statement (.res_1_atIYd_to_A d) := ⟨.chgIdx false .b1 .IY d (some .A), rfl⟩
theorem res_2_atIYd_to_B (d : Byte) : Statement (.res_2_atIYd_to_B d) := ⟨.chgIdx false .b2 .IY d (some .B), rfl⟩
theorem res_2_atIYd_to_C (d : Byte) : Statement (.res_2_atIYd_to_C d) := ⟨.chgIdx false .b2 .IY d (some .C), rfl⟩
theorem res_2_atIYd_to_D (d : Byte) : Statement (.res_2_atIYd_to_D d) := ⟨.chgIdx false .b2 .IY d (some .D), rfl⟩
theorem res_2_atIYd_to_E (d : Byte) : Statement (.res_2_atIYd_to_E d) := ⟨.chgIdx false .b2 .IY d (some .E), rfl⟩
theorem res_2_atIYd_to_H (d : Byte) : Statement (.res_2_atIYd_to_H d) := ⟨.chgIdx false .b2 .IY d (some .H), rfl⟩
theorem res_2_atIYd_to_L (d : Byte) : Statement (.res_2_atIYd_to_L d) := ⟨.chgIdx false .b2 .IY d (some .L), rfl⟩
theorem res_2_atIYd (d : Byte) : Statement (.res_2_atIYd d) := ⟨.chgIdx false .b2 .IY d none, rfl⟩
theorem res_2_atIYd_to_A (d : Byte) : Statement (.res_2_atIYd_to_A d) := ⟨.chgIdx false .b2 .IY d (some .A), rfl⟩
theorem res_3_atIYd_to_B (d : Byte) : Statement (.res_3_atIYd_to_B d) := ⟨.chgIdx false .b3 .IY d (some .B), rfl⟩
theorem res_3_atIYd_to_C (d : Byte) : Statement (.res_3_atIYd_to_C d) := ⟨.chgIdx false .b3 .IY d (some .C), rfl⟩
theorem res_3_atIYd_to_D (d : Byte) : Statement (.res_3_atIYd_to_D d) := ⟨.chgIdx false .b3 .IY d (some .D), rfl⟩
theorem res_3_atIYd_to_E (d : Byte) : Statement (.res_3_atIYd_to_E d) := ⟨.chgIdx false .b3 .IY d (some .E), rfl⟩
theorem res_3_atIYd_to_H (d : Byte) : Statement (.res_3_atIYd_to_H d) := ⟨.chgIdx false .b3 .IY d (some .H), rfl⟩
theorem res_3_atIYd_to_L (d : Byte) : Statement (.res_3_atIYd_to_L d) := ⟨.chgIdx false .b3 .IY d (some .L), rfl⟩
theorem res_3_atIYd (d : Byte) : Statement (.res_3_atIYd d) := ⟨.chgIdx false .b3 .IY d none, rfl⟩
theorem res_3_atIYd_to_A (d : Byte) : Statement (.res_3_atIYd_to_A d) := ⟨.chgIdx false .b3 .IY d (some .A), rfl⟩
theorem res_4_atIYd_to_B (d : Byte) : Statement (.res_4_atIYd_to_B d) := ⟨.chgIdx false .b4 .IY d (some .B), rfl⟩
theorem res_4_atIYd_to_C (d : Byte) : Statement (.res_4_atIYd_to_C d) := ⟨.chgIdx false .b4 .IY d (some .C), rfl⟩
theorem res_4_atIYd_to_D (d : Byte) : Statement (.res_4_atIYd_to_D d) := ⟨.chgIdx false .b4 .IY d (some .D), rfl⟩
theorem res_4_atIYd_to_E (d : Byte) : Statement (.res_4_atIYd_to_E d) := ⟨.chgIdx false .b4 .IY d (some .E), rfl⟩
theorem res_4_atIYd_to_H (d : Byte) : Statement (.res_4_atIYd_to_H d) := ⟨.chgIdx false .b4 .IY d (some .H), rfl⟩
theorem res_4_atIYd_to_L (d : Byte) : Statement (.res_4_atIYd_to_L d) := ⟨.chgIdx false .b4 .IY d (some .L), rfl⟩
theorem res_4_atIYd (d : Byte) : Statement (.res_4_atIYd d) := ⟨.chgIdx false .b4 .IY d none, rfl⟩
theorem res_4_atIYd_to_A (d : Byte) : Statement (.res_4_atIYd_to_A d) := ⟨.chgIdx false .b4 .IY d (some .A), rfl⟩
theorem res_5_atIYd_to_B (d : Byte) : Statement (.res_5_atIYd_to_B d) := ⟨.chgIdx false .b5 .IY d (some .B), rfl⟩
theorem res_5_atIYd_to_C (d : Byte) : Statement (.res_5_atIYd_to_C d) := ⟨.chgIdx false .b5 .IY d (some .C), rfl⟩
theorem res_5_atIYd_to_D (d : Byte) : Statement (.res_5_atIYd_to_D d) := ⟨.chgIdx false .b5 .IY d (some .D), rfl⟩
theorem res_5_atIYd_to_E (d : Byte) : Statement (.res_5_atIYd_to_E d) := ⟨.chgIdx false .b5 .IY d (some .E), rfl⟩
theorem res_5_atIYd_to_H (d : Byte) : Statement (.res_5_atIYd_to_H d) := ⟨.chgIdx false .b5 .IY d (some .H), rfl⟩
theorem res_5_atIYd_to_L (d : Byte) : Statement (.res_5_atIYd_to_L d) := ⟨.chgIdx false .b5 .IY d (some .L), rfl⟩
theorem res_5_atIYd (d : Byte) : Statement (.res_5_atIYd d) := ⟨.chgIdx false .b5 .IY d none, rfl⟩
theorem res_5_atIYd_to_A (d : Byte) : Statement (.res_5_atIYd_to_A d) := ⟨.chgIdx false .b5 .IY d (some .A), rfl⟩
theorem res_6_atIYd_to_B (d : Byte) : Statement (.res_6_atIYd_to_B d) := ⟨.chgIdx false .b6 .IY d (some .B), rfl⟩
theorem res_6_atIYd_to_C (d : Byte) : Statement (.res_6_atIYd_to_C d) := ⟨.chgIdx false .b6 .IY d (some .C), rfl⟩
theorem res_6_atIYd_to_D (d : Byte) : Statement (.res_6_atIYd_to_D d) := ⟨.chgIdx false .b6 .IY d (some .D), rfl⟩
theorem res_6_atIYd_to_E (d : Byte) : Statement (.res_6_atIYd_to_E d) := ⟨.chgIdx false .b6 .IY d (some .E), rfl⟩
theorem res_6_atIYd_to_H (d : Byte) : Statement (.res_6_atIYd_to_H d) := ⟨.chgIdx false .b6 .IY d (some .H), rfl⟩
theorem res_6_atIYd_to_L (d : Byte) : Statement (.res_6_atIYd_to_L d) := ⟨.chgIdx false .b6 .IY d (some .L), rfl⟩
theorem res_6_atIYd (d : Byte) : Statement (.res_6_atIYd d) := ⟨.chgIdx false .b6 .IY d none, rfl⟩
theorem res_6_atIYd_to_A (d : Byte) : Statement (.res_6_atIYd_to_A d) := ⟨.chgIdx false .b6 .IY d (some .A), rfl⟩
theorem res_7_atIYd_to_B (d : Byte) : Statement (.res_7_atIYd_to_B d) := ⟨.chgIdx false .b7 .IY d (some .B), rfl⟩
theorem res_7_atIYd_to_C (d : Byte) : Statement (.res_7_atIYd_to_C d) := ⟨.chgIdx false .b7 .IY d (some .C), rfl⟩
theorem res_7_atIYd_to_D (d : Byte) : Statement (.res_7_atIYd_to_D d) := ⟨.chgIdx false .b7 .IY d (some .D), rfl⟩
theorem res_7_atIYd_to_E (d : Byte) : Statement (.res_7_atIYd_to_E d) := ⟨.chgIdx false .b7 .IY d (some .E), rfl⟩
theorem res_7_atIYd_to_H (d : Byte) : Statement (.res_7_atIYd_to_H d) := ⟨.chgIdx false .b7 .IY d (some .H), rfl⟩
theorem res_7_atIYd_to_L (d : Byte) : Statement (.res_7_atIYd_to_L d) := ⟨.chgIdx false .b7 .IY d (some .L), rfl⟩
theorem res_7_atIYd (d : Byte) : Statement (.res_7_atIYd d) := ⟨.chgIdx false .b7 .IY d none, rfl⟩
theorem res_7_atIYd_to_A (d : Byte) : Statement (.res_7_atIYd_to_A d) := ⟨.chgIdx false .b7 .IY d (some .A), rfl⟩
theorem set_0_atIYd_to_B (d : Byte) : Statement (.set_0_atIYd_to_B d) := ⟨.chgIdx true .b0 .IY d (some .B), rfl⟩
theorem set_0_atIYd_to_C (d : Byte) : Statement (.set_0_atIYd_to_C d) := ⟨.chgIdx true .b0 .IY d (some .C), rfl⟩
theorem set_0_atIYd_to_D (d : Byte) : Statement (.set_0_atIYd_to_D d) := ⟨.chgIdx true .b0 .IY d (some .D), rfl⟩
theorem set_0_atIYd_to_E (d : Byte) : Statement (.set_0_atIYd_to_E d) := ⟨.chgIdx true .b0 .IY d (some .E), rfl⟩
theorem set_0_atIYd_to_H (d : Byte) : Statement (.set_0_atIYd_to_H d) := ⟨.chgIdx true .b0 .IY d (some .H), rfl⟩
theorem set_0_atIYd_to_L (d : Byte) : Statement (.set_0_atIYd_to_L d) := ⟨.chgIdx true .b0 .IY d (some .L), rfl⟩
theorem set_0_atIYd (d : Byte) : Statement (.set_0_atIYd d) := ⟨.chgIdx true .b0 .IY d none, rfl⟩
theorem set_0_atIYd_to_A (d : Byte) : Statement (.set_0_atIYd_to_A d) := ⟨.chgIdx true .b0 .IY d (some .A), rfl⟩
theorem set_1_atIYd_to_B (d : Byte) : Statement (.set_1_atIYd_to_B d) := ⟨.chgIdx true .b1 .IY d (some .B), rfl⟩
theorem set_1_atIYd_to_C (d : Byte) : Statement (.set_1_atIYd_to_C d) := ⟨.chgIdx true .b1 .IY d (some .C), rfl⟩
theorem set_1_atIYd_to_D (d : Byte) : Statement (.set_1_atIYd_to_D d) := ⟨.chgIdx true .b1 .IY d (some .D), rfl⟩
theorem set_1_atIYd_to_E (d : Byte) : Statement (.set_1_atIYd_to_E d) := ⟨.chgIdx true .b1 .IY d (some .E), rfl⟩
theorem set_1_atIYd_to_H (d : Byte) : Statement (.set_1_atIYd_to_H d) := ⟨.chgIdx true .b1 .IY d (some .H), rfl⟩
theorem set_1_atIYd_to_L (d : Byte) : Statement (.set_1_atIYd_to_L d) := ⟨.chgIdx true .b1 .IY d (some .L), rfl⟩
theorem set_1_atIYd (d : Byte) : Statement (.set_1_atIYd d) := ⟨.chgIdx true .b1 .IY d none, rfl⟩
theorem set_1_atIYd_to_A (d : Byte) : Statement (.set_1_atIYd_to_A d) := ⟨.chgIdx true .b1 .IY d (some .A), rfl⟩
theorem set_2_atIYd_to_B (d : Byte) : Statement (.set_2_atIYd_to_B d) := ⟨.chgIdx true .b2 .IY d (some .B), rfl⟩
theorem set_2_atIYd_to_C (d : Byte) : Statement (.set_2_atIYd_to_C d) := ⟨.chgIdx true .b2 .IY d (some .C), rfl⟩
theorem set_2_atIYd_to_D (d : Byte) : Statement (.set_2_atIYd_to_D d) := ⟨.chgIdx true .b2 .IY d (some .D), rfl⟩
theorem set_2_atIYd_to_E (d : Byte) : Statement (.set_2_atIYd_to_E d) := ⟨.chgIdx true .b2 .IY d (some .E), rfl⟩
theorem set_2_atIYd_to_H (d : Byte) : Statement (.set_2_atIYd_to_H d) := ⟨.chgIdx true .b2 .IY d (some .H), rfl⟩
theorem set_2_atIYd_to_L (d : Byte) : Statement (.set_2_atIYd_to_L d) := ⟨.chgIdx true .b2 .IY d (some .L), rfl⟩
theorem set_2_atIYd (d : Byte) : Statement (.set_2_atIYd d) := ⟨.chgIdx true .b2 .IY d none, rfl⟩
theorem set_2_atIYd_to_A (d : Byte) : Statement (.set_2_atIYd_to_A d) := ⟨.chgIdx true .b2 .IY d (some .A), rfl⟩
theorem set_3_atIYd_to_B (d : Byte) : Statement (.set_3_atIYd_to_B d) := ⟨.chgIdx true .b3 .IY d (some .B), rfl⟩
theorem set_3_atIYd_to_C (d : Byte) : Statement (.set_3_atIYd_to_C d) := ⟨.chgIdx true .b3 .IY d (some .C), rfl⟩
theorem set_3_atIYd_to_D (d : Byte) : Statement (.set_3_atIYd_to_D d) := ⟨.chgIdx true .b3 .IY d (some .D), rfl⟩
theorem set_3_atIYd_to_E (d : Byte) : Statement (.set_3_atIYd_to_E d) := ⟨.chgIdx true .b3 .IY d (some .E), rfl⟩
theorem set_3_atIYd_to_H (d : Byte) : Statement (.set_3_atIYd_to_H d) := ⟨.chgIdx true .b3 .IY d (some .H), rfl⟩
theorem set_3_atIYd_to_L (d : Byte) : Statement (.set_3_atIYd_to_L d) := ⟨.chgIdx true .b3 .IY d (some .L), rfl⟩
theorem set_3_atIYd (d : Byte) : Statement (.set_3_atIYd d) := ⟨.chgIdx true .b3 .IY d none, rfl⟩
theorem set_3_atIYd_to_A (d : Byte) : Statement (.set_3_atIYd_to_A d) := ⟨.chgIdx true .b3 .IY d (some .A), rfl⟩
theorem set_4_atIYd_to_B (d : Byte) : Statement (.set_4_atIYd_to_B d) := ⟨.chgIdx true .b4 .IY d (some .B), rfl⟩
theorem set_4_atIYd_to_C (d : Byte) : Statement (.set_4_atIYd_to_C d) := ⟨.chgIdx true .b4 .IY d (some .C), rfl⟩
theorem set_4_atIYd_to_D (d : Byte) : Statement (.set_4_atIYd_to_D d) := ⟨.chgIdx true .b4 .IY d (some .D), rfl⟩
theorem set_4_atIYd_to_E (d : Byte) : Statement (.set_4_atIYd_to_E d) := ⟨.chgIdx true .b4 .IY d (some .E), rfl⟩
theorem set_4_atIYd_to_H (d : Byte) : Statement (.set_4_atIYd_to_H d) := ⟨.chgIdx true .b4 .IY d (some .H), rfl⟩
theorem set_4_atIYd_to_L (d : Byte) : Statement (.set_4_atIYd_to_L d) := ⟨.chgIdx true .b4 .IY d (some .L), rfl⟩
theorem set_4_atIYd (d : Byte) : Statement (.set_4_atIYd d) := ⟨.chgIdx true .b4 .IY d none, rfl⟩
theorem set_4_atIYd_to_A (d : Byte) : Statement (.set_4_atIYd_to_A d) := ⟨.chgIdx true .b4 .IY d (some .A), rfl⟩
theorem set_5_atIYd_to_B (d : Byte) : Statement (.set_5_atIYd_to_B d) := ⟨.chgIdx true .b5 .IY d (some .B), rfl⟩
theorem set_5_atIYd_to_C (d : Byte) : Statement (.set_5_atIYd_to_C d) := ⟨.chgIdx true .b5 .IY d (some .C), rfl⟩
theorem set_5_atIYd_to_D (d : Byte) : Statement (.set_5_atIYd_to_D d) := ⟨.chgIdx true .b5 .IY d (some .D), rfl⟩
theorem set_5_atIYd_to_E (d : Byte) : Statement (.set_5_atIYd_to_E d) := ⟨.chgIdx true .b5 .IY d (some .E), rfl⟩
theorem set_5_atIYd_to_H (d : Byte) : Statement (.set_5_atIYd_to_H d) := ⟨.chgIdx true .b5 .IY d (some .H), rfl⟩
theorem set_5_atIYd_to_L (d : Byte) : Statement (.set_5_atIYd_to_L d) := ⟨.chgIdx true .b5 .IY d (some .L), rfl⟩
theorem set_5_atIYd (d : Byte) : Statement (.set_5_atIYd d) := ⟨.chgIdx true .b5 .IY d none, rfl⟩
theorem set_5_atIYd_to_A (d : Byte) : Statement (.set_5_atIYd_to_A d) := ⟨.chgIdx true .b5 .IY d (some .A), rfl⟩
theorem set_6_atIYd_to_B (d : Byte) : Statement (.set_6_atIYd_to_B d) := ⟨.chgIdx true .b6 .IY d (some .B), rfl⟩
theorem set_6_atIYd_to_C (d : Byte) : Statement (.set_6_atIYd_to_C d) := ⟨.chgIdx true .b6 .IY d (some .C), rfl⟩
theorem set_6_atIYd_to_D (d : Byte) : Statement (.set_6_atIYd_to_D d) := ⟨.chgIdx true .b6 .IY d (some .D), rfl⟩
theorem set_6_atIYd_to_E (d : Byte) : Statement (.set_6_atIYd_to_E d) := ⟨.chgIdx true .b6 .IY d (some .E), rfl⟩
theorem set_6_atIYd_to_H (d : Byte) : Statement (.set_6_atIYd_to_H d) := ⟨.chgIdx true .b6 .IY d (some .H), rfl⟩
theorem set_6_atIYd_to_L (d : Byte) : Statement (.set_6_atIYd_to_L d) := ⟨.chgIdx true .b6 .IY d (some .L), rfl⟩
theorem set_6_atIYd (d : Byte) : Statement (.set_6_atIYd d) := ⟨.chgIdx true .b6 .IY d none, rfl⟩
theorem set_6_atIYd_to_A (d : Byte) : Statement (.set_6_atIYd_to_A d) := ⟨.chgIdx true .b6 .IY d (some .A), rfl⟩
theorem set_7_atIYd_to_B (d : Byte) : Statement (.set_7_atIYd_to_B d) := ⟨.chgIdx true .b7 .IY d (some .B), rfl⟩
theorem set_7_atIYd_to_C (d : Byte) : Statement (.set_7_atIYd_to_C d) := ⟨.chgIdx true .b7 .IY d (some .C), rfl⟩
theorem set_7_atIYd_to_D (d : Byte) : Statement (.set_7_atIYd_to_D d) := ⟨.chgIdx true .b7 .IY d (some .D), rfl⟩
theorem set_7_atIYd_to_E (d : Byte) : Statement (.set_7_atIYd_to_E d) := ⟨.chgIdx true .b7 .IY d (some .E), rfl⟩
theorem set_7_atIYd_to_H (d : Byte) : Statement (.set_7_atIYd_to_H d) := ⟨.chgIdx true .b7 .IY d (some .H), rfl⟩
theorem set_7_atIYd_to_L (d : Byte) : Statement (.set_7_atIYd_to_L d) := ⟨.chgIdx true .b7 .IY d (some .L), rfl⟩
theorem set_7_atIYd (d : Byte) : Statement (.set_7_atIYd d) := ⟨.chgIdx true .b7 .IY d none, rfl⟩
theorem set_7_atIYd_to_A (d : Byte) : Statement (.set_7_atIYd_to_A d) := ⟨.chgIdx true .b7 .IY d (some .A), rfl⟩
theorem pop_IY : Statement (.pop_IY) := ⟨.popIndex .IY, rfl⟩
theorem ex_atSP_IY : Statement (.ex_atSP_IY) := ⟨.exSpIndex .IY, rfl⟩
theorem push_IY : Statement (.push_IY) := ⟨.pushIndex .IY, rfl⟩
theorem jp_atIY : Statement (.jp_atIY) := ⟨.jpIndex .IY, rfl⟩
theorem ld_SP_IY : Statement (.ld_SP_IY) := ⟨.ldSpIndex .IY, rfl⟩
theorem invalid (p : OpPrefix) (op : Byte) : Statement (.invalid p op) := ⟨.invalid p op, rfl⟩

end Sys2Proof.Laws.HasForm
end

