-- ==== Sys2Proof/Tests/Slice0.lean ====
section
/-! SUPPORT. The model's own tests. Words are written from opcode_table.json, expected results are those of 95_test_vectors.md
(named by their V number) or of the examples the rules give; then, for each statement with hypotheses, witnesses that meet them. -/

namespace Sys2Proof.Tests

open Sys2Proof.Machine

/-! ## Well-formedness -/

/-- `invalid` of a defined ED opcode (NEG) is refused. -/
theorem test_illformed_ed : (Instr.invalid .ED 0x44).wellFormed = false := by decide
/-- `invalid` of a defined DD opcode (LD IX,nn) is refused. -/
theorem test_illformed_dd : (Instr.invalid .DD 0x21).wellFormed = false := by decide
/-- `invalid` of a defined FD opcode (JP (IY)) is refused. -/
theorem test_illformed_fd : (Instr.invalid .FD 0xE9).wellFormed = false := by decide
/-- DD CB begins the prefix chain, so `invalid` of it is refused. -/
theorem test_illformed_ddcb : (Instr.invalid .DD 0xCB).wellFormed = false := by decide
/-- FD CB likewise. -/
theorem test_illformed_fdcb : (Instr.invalid .FD 0xCB).wellFormed = false := by decide
/-- Undefined opcodes named by R126: ED 70, DD DD, FD 76. -/
theorem test_wellformed_invalid : ((Instr.invalid .ED 0x70).wellFormed && (Instr.invalid .DD 0xDD).wellFormed
    && (Instr.invalid .FD 0x76).wellFormed) = true := by decide

/-! ## Decoding: every constructor, by the word of its row with d = 85, n = 3A, e = F1, nn = 1234 -/

/-- Each word decodes to its instruction and length, and the instruction encodes to the word. -/
noncomputable def agree (l : List (List Byte × Instr)) : Bool :=
  l.all (fun p => decide (decode p.1 = .ok (p.2, p.1.length)) && decide (encode p.2 = p.1))

noncomputable def wordsIoCpu0 : List (List Byte × Instr) := [
  ([0x00], .nop),
  ([0x76], .halt),
  ([0xD3, 0x3A], .out_atn_A 0x3A),
  ([0xDB, 0x3A], .in_A_atn 0x3A),
  ([0xF3], .di),
  ([0xFB], .ei),
  ([0xED, 0x40], .in_B_atC),
  ([0xED, 0x41], .out_atC_B),
  ([0xED, 0x46], .im_0),
  ([0xED, 0x48], .in_C_atC),
  ([0xED, 0x49], .out_atC_C),
  ([0xED, 0x50], .in_D_atC),
  ([0xED, 0x51], .out_atC_D),
  ([0xED, 0x56], .im_1),
  ([0xED, 0x58], .in_E_atC),
  ([0xED, 0x59], .out_atC_E)]
noncomputable def wordsIoCpu1 : List (List Byte × Instr) := [
  ([0xED, 0x5E], .im_2),
  ([0xED, 0x60], .in_H_atC),
  ([0xED, 0x61], .out_atC_H),
  ([0xED, 0x68], .in_L_atC),
  ([0xED, 0x69], .out_atC_L),
  ([0xED, 0x78], .in_A_atC),
  ([0xED, 0x79], .out_atC_A)]

/-- Port I/O and CPU control: the words of opcode_table.json decode to their instructions, which encode to them. -/
theorem test_decode_iocpu : agree (wordsIoCpu0 ++ wordsIoCpu1) = true := by decide

noncomputable def wordsLoad160 : List (List Byte × Instr) := [
  ([0x01, 0x34, 0x12], .ld_BC_nn 0x1234),
  ([0x08], .ex_AF_AFalt),
  ([0x11, 0x34, 0x12], .ld_DE_nn 0x1234),
  ([0x21, 0x34, 0x12], .ld_HL_nn 0x1234),
  ([0x22, 0x34, 0x12], .ld_atnn_HL 0x1234),
  ([0x2A, 0x34, 0x12], .ld_HL_atnn 0x1234),
  ([0x31, 0x34, 0x12], .ld_SP_nn 0x1234),
  ([0xC1], .pop_BC),
  ([0xC5], .push_BC),
  ([0xD1], .pop_DE),
  ([0xD5], .push_DE),
  ([0xD9], .exx),
  ([0xE1], .pop_HL),
  ([0xE3], .ex_atSP_HL),
  ([0xE5], .push_HL),
  ([0xEB], .ex_DE_HL)]
noncomputable def wordsLoad161 : List (List Byte × Instr) := [
  ([0xF1], .pop_AF),
  ([0xF5], .push_AF),
  ([0xF9], .ld_SP_HL),
  ([0xED, 0x43, 0x34, 0x12], .ld_atnn_BC 0x1234),
  ([0xED, 0x4B, 0x34, 0x12], .ld_BC_atnn 0x1234),
  ([0xED, 0x53, 0x34, 0x12], .ld_atnn_DE 0x1234),
  ([0xED, 0x5B, 0x34, 0x12], .ld_DE_atnn 0x1234),
  ([0xED, 0x63, 0x34, 0x12], .ld_atnn_HL_ED 0x1234),
  ([0xED, 0x6B, 0x34, 0x12], .ld_HL_atnn_ED 0x1234),
  ([0xED, 0x73, 0x34, 0x12], .ld_atnn_SP 0x1234),
  ([0xED, 0x7B, 0x34, 0x12], .ld_SP_atnn 0x1234),
  ([0xDD, 0x21, 0x34, 0x12], .ld_IX_nn 0x1234),
  ([0xDD, 0x22, 0x34, 0x12], .ld_atnn_IX 0x1234),
  ([0xDD, 0x2A, 0x34, 0x12], .ld_IX_atnn 0x1234),
  ([0xDD, 0xE1], .pop_IX),
  ([0xDD, 0xE3], .ex_atSP_IX)]
noncomputable def wordsLoad162 : List (List Byte × Instr) := [
  ([0xDD, 0xE5], .push_IX),
  ([0xDD, 0xF9], .ld_SP_IX),
  ([0xFD, 0x21, 0x34, 0x12], .ld_IY_nn 0x1234),
  ([0xFD, 0x22, 0x34, 0x12], .ld_atnn_IY 0x1234),
  ([0xFD, 0x2A, 0x34, 0x12], .ld_IY_atnn 0x1234),
  ([0xFD, 0xE1], .pop_IY),
  ([0xFD, 0xE3], .ex_atSP_IY),
  ([0xFD, 0xE5], .push_IY),
  ([0xFD, 0xF9], .ld_SP_IY)]

/-- 16-bit loads, stack and exchange: the words of opcode_table.json decode to their instructions, which encode to them. -/
theorem test_decode_load16 : agree (wordsLoad160 ++ wordsLoad161 ++ wordsLoad162) = true := by decide

noncomputable def wordsLoad80 : List (List Byte × Instr) := [
  ([0x02], .ld_atBC_A),
  ([0x06, 0x3A], .ld_B_n 0x3A),
  ([0x0A], .ld_A_atBC),
  ([0x0E, 0x3A], .ld_C_n 0x3A),
  ([0x12], .ld_atDE_A),
  ([0x16, 0x3A], .ld_D_n 0x3A),
  ([0x1A], .ld_A_atDE),
  ([0x1E, 0x3A], .ld_E_n 0x3A),
  ([0x26, 0x3A], .ld_H_n 0x3A),
  ([0x2E, 0x3A], .ld_L_n 0x3A),
  ([0x32, 0x34, 0x12], .ld_atnn_A 0x1234),
  ([0x36, 0x3A], .ld_atHL_n 0x3A),
  ([0x3A, 0x34, 0x12], .ld_A_atnn 0x1234),
  ([0x3E, 0x3A], .ld_A_n 0x3A),
  ([0x40], .ld_B_B),
  ([0x41], .ld_B_C)]
noncomputable def wordsLoad81 : List (List Byte × Instr) := [
  ([0x42], .ld_B_D),
  ([0x43], .ld_B_E),
  ([0x44], .ld_B_H),
  ([0x45], .ld_B_L),
  ([0x46], .ld_B_atHL),
  ([0x47], .ld_B_A),
  ([0x48], .ld_C_B),
  ([0x49], .ld_C_C),
  ([0x4A], .ld_C_D),
  ([0x4B], .ld_C_E),
  ([0x4C], .ld_C_H),
  ([0x4D], .ld_C_L),
  ([0x4E], .ld_C_atHL),
  ([0x4F], .ld_C_A),
  ([0x50], .ld_D_B),
  ([0x51], .ld_D_C)]
noncomputable def wordsLoad82 : List (List Byte × Instr) := [
  ([0x52], .ld_D_D),
  ([0x53], .ld_D_E),
  ([0x54], .ld_D_H),
  ([0x55], .ld_D_L),
  ([0x56], .ld_D_atHL),
  ([0x57], .ld_D_A),
  ([0x58], .ld_E_B),
  ([0x59], .ld_E_C),
  ([0x5A], .ld_E_D),
  ([0x5B], .ld_E_E),
  ([0x5C], .ld_E_H),
  ([0x5D], .ld_E_L),
  ([0x5E], .ld_E_atHL),
  ([0x5F], .ld_E_A),
  ([0x60], .ld_H_B),
  ([0x61], .ld_H_C)]
noncomputable def wordsLoad83 : List (List Byte × Instr) := [
  ([0x62], .ld_H_D),
  ([0x63], .ld_H_E),
  ([0x64], .ld_H_H),
  ([0x65], .ld_H_L),
  ([0x66], .ld_H_atHL),
  ([0x67], .ld_H_A),
  ([0x68], .ld_L_B),
  ([0x69], .ld_L_C),
  ([0x6A], .ld_L_D),
  ([0x6B], .ld_L_E),
  ([0x6C], .ld_L_H),
  ([0x6D], .ld_L_L),
  ([0x6E], .ld_L_atHL),
  ([0x6F], .ld_L_A),
  ([0x70], .ld_atHL_B),
  ([0x71], .ld_atHL_C)]
noncomputable def wordsLoad84 : List (List Byte × Instr) := [
  ([0x72], .ld_atHL_D),
  ([0x73], .ld_atHL_E),
  ([0x74], .ld_atHL_H),
  ([0x75], .ld_atHL_L),
  ([0x77], .ld_atHL_A),
  ([0x78], .ld_A_B),
  ([0x79], .ld_A_C),
  ([0x7A], .ld_A_D),
  ([0x7B], .ld_A_E),
  ([0x7C], .ld_A_H),
  ([0x7D], .ld_A_L),
  ([0x7E], .ld_A_atHL),
  ([0x7F], .ld_A_A),
  ([0xED, 0x47], .ld_I_A),
  ([0xED, 0x4F], .ld_R_A),
  ([0xED, 0x57], .ld_A_I)]
noncomputable def wordsLoad85 : List (List Byte × Instr) := [
  ([0xED, 0x5F], .ld_A_R),
  ([0xDD, 0x26, 0x3A], .ld_IXH_n 0x3A),
  ([0xDD, 0x2E, 0x3A], .ld_IXL_n 0x3A),
  ([0xDD, 0x36, 0x85, 0x3A], .ld_atIXd_n 0x85 0x3A),
  ([0xDD, 0x44], .ld_B_IXH),
  ([0xDD, 0x45], .ld_B_IXL),
  ([0xDD, 0x46, 0x85], .ld_B_atIXd 0x85),
  ([0xDD, 0x4C], .ld_C_IXH),
  ([0xDD, 0x4D], .ld_C_IXL),
  ([0xDD, 0x4E, 0x85], .ld_C_atIXd 0x85),
  ([0xDD, 0x54], .ld_D_IXH),
  ([0xDD, 0x55], .ld_D_IXL),
  ([0xDD, 0x56, 0x85], .ld_D_atIXd 0x85),
  ([0xDD, 0x5C], .ld_E_IXH),
  ([0xDD, 0x5D], .ld_E_IXL),
  ([0xDD, 0x5E, 0x85], .ld_E_atIXd 0x85)]
noncomputable def wordsLoad86 : List (List Byte × Instr) := [
  ([0xDD, 0x60], .ld_IXH_B),
  ([0xDD, 0x61], .ld_IXH_C),
  ([0xDD, 0x62], .ld_IXH_D),
  ([0xDD, 0x63], .ld_IXH_E),
  ([0xDD, 0x64], .ld_IXH_IXH),
  ([0xDD, 0x65], .ld_IXH_IXL),
  ([0xDD, 0x66, 0x85], .ld_H_atIXd 0x85),
  ([0xDD, 0x67], .ld_IXH_A),
  ([0xDD, 0x68], .ld_IXL_B),
  ([0xDD, 0x69], .ld_IXL_C),
  ([0xDD, 0x6A], .ld_IXL_D),
  ([0xDD, 0x6B], .ld_IXL_E),
  ([0xDD, 0x6C], .ld_IXL_IXH),
  ([0xDD, 0x6D], .ld_IXL_IXL),
  ([0xDD, 0x6E, 0x85], .ld_L_atIXd 0x85),
  ([0xDD, 0x6F], .ld_IXL_A)]
noncomputable def wordsLoad87 : List (List Byte × Instr) := [
  ([0xDD, 0x70, 0x85], .ld_atIXd_B 0x85),
  ([0xDD, 0x71, 0x85], .ld_atIXd_C 0x85),
  ([0xDD, 0x72, 0x85], .ld_atIXd_D 0x85),
  ([0xDD, 0x73, 0x85], .ld_atIXd_E 0x85),
  ([0xDD, 0x74, 0x85], .ld_atIXd_H 0x85),
  ([0xDD, 0x75, 0x85], .ld_atIXd_L 0x85),
  ([0xDD, 0x77, 0x85], .ld_atIXd_A 0x85),
  ([0xDD, 0x7C], .ld_A_IXH),
  ([0xDD, 0x7D], .ld_A_IXL),
  ([0xDD, 0x7E, 0x85], .ld_A_atIXd 0x85),
  ([0xFD, 0x26, 0x3A], .ld_IYH_n 0x3A),
  ([0xFD, 0x2E, 0x3A], .ld_IYL_n 0x3A),
  ([0xFD, 0x36, 0x85, 0x3A], .ld_atIYd_n 0x85 0x3A),
  ([0xFD, 0x44], .ld_B_IYH),
  ([0xFD, 0x45], .ld_B_IYL),
  ([0xFD, 0x46, 0x85], .ld_B_atIYd 0x85)]
noncomputable def wordsLoad88 : List (List Byte × Instr) := [
  ([0xFD, 0x4C], .ld_C_IYH),
  ([0xFD, 0x4D], .ld_C_IYL),
  ([0xFD, 0x4E, 0x85], .ld_C_atIYd 0x85),
  ([0xFD, 0x54], .ld_D_IYH),
  ([0xFD, 0x55], .ld_D_IYL),
  ([0xFD, 0x56, 0x85], .ld_D_atIYd 0x85),
  ([0xFD, 0x5C], .ld_E_IYH),
  ([0xFD, 0x5D], .ld_E_IYL),
  ([0xFD, 0x5E, 0x85], .ld_E_atIYd 0x85),
  ([0xFD, 0x60], .ld_IYH_B),
  ([0xFD, 0x61], .ld_IYH_C),
  ([0xFD, 0x62], .ld_IYH_D),
  ([0xFD, 0x63], .ld_IYH_E),
  ([0xFD, 0x64], .ld_IYH_IYH),
  ([0xFD, 0x65], .ld_IYH_IYL),
  ([0xFD, 0x66, 0x85], .ld_H_atIYd 0x85)]
noncomputable def wordsLoad89 : List (List Byte × Instr) := [
  ([0xFD, 0x67], .ld_IYH_A),
  ([0xFD, 0x68], .ld_IYL_B),
  ([0xFD, 0x69], .ld_IYL_C),
  ([0xFD, 0x6A], .ld_IYL_D),
  ([0xFD, 0x6B], .ld_IYL_E),
  ([0xFD, 0x6C], .ld_IYL_IYH),
  ([0xFD, 0x6D], .ld_IYL_IYL),
  ([0xFD, 0x6E, 0x85], .ld_L_atIYd 0x85),
  ([0xFD, 0x6F], .ld_IYL_A),
  ([0xFD, 0x70, 0x85], .ld_atIYd_B 0x85),
  ([0xFD, 0x71, 0x85], .ld_atIYd_C 0x85),
  ([0xFD, 0x72, 0x85], .ld_atIYd_D 0x85),
  ([0xFD, 0x73, 0x85], .ld_atIYd_E 0x85),
  ([0xFD, 0x74, 0x85], .ld_atIYd_H 0x85),
  ([0xFD, 0x75, 0x85], .ld_atIYd_L 0x85),
  ([0xFD, 0x77, 0x85], .ld_atIYd_A 0x85)]
noncomputable def wordsLoad810 : List (List Byte × Instr) := [
  ([0xFD, 0x7C], .ld_A_IYH),
  ([0xFD, 0x7D], .ld_A_IYL),
  ([0xFD, 0x7E, 0x85], .ld_A_atIYd 0x85)]

/-- 8-bit loads: the words of opcode_table.json decode to their instructions, which encode to them. -/
theorem test_decode_load8_0 : agree (wordsLoad80 ++ wordsLoad81 ++ wordsLoad82 ++ wordsLoad83) = true := by decide
/-- 8-bit loads: the words of opcode_table.json decode to their instructions, which encode to them. -/
theorem test_decode_load8_1 : agree (wordsLoad84 ++ wordsLoad85 ++ wordsLoad86 ++ wordsLoad87) = true := by decide
/-- 8-bit loads: the words of opcode_table.json decode to their instructions, which encode to them. -/
theorem test_decode_load8_2 : agree (wordsLoad88 ++ wordsLoad89 ++ wordsLoad810) = true := by decide

noncomputable def wordsArith160 : List (List Byte × Instr) := [
  ([0x03], .inc_BC),
  ([0x09], .add_HL_BC),
  ([0x0B], .dec_BC),
  ([0x13], .inc_DE),
  ([0x19], .add_HL_DE),
  ([0x1B], .dec_DE),
  ([0x23], .inc_HL),
  ([0x29], .add_HL_HL),
  ([0x2B], .dec_HL),
  ([0x33], .inc_SP),
  ([0x39], .add_HL_SP),
  ([0x3B], .dec_SP),
  ([0xED, 0x42], .sbc_HL_BC),
  ([0xED, 0x4A], .adc_HL_BC),
  ([0xED, 0x52], .sbc_HL_DE),
  ([0xED, 0x5A], .adc_HL_DE)]
noncomputable def wordsArith161 : List (List Byte × Instr) := [
  ([0xED, 0x62], .sbc_HL_HL),
  ([0xED, 0x6A], .adc_HL_HL),
  ([0xED, 0x72], .sbc_HL_SP),
  ([0xED, 0x7A], .adc_HL_SP),
  ([0xDD, 0x09], .add_IX_BC),
  ([0xDD, 0x19], .add_IX_DE),
  ([0xDD, 0x23], .inc_IX),
  ([0xDD, 0x29], .add_IX_IX),
  ([0xDD, 0x2B], .dec_IX),
  ([0xDD, 0x39], .add_IX_SP),
  ([0xFD, 0x09], .add_IY_BC),
  ([0xFD, 0x19], .add_IY_DE),
  ([0xFD, 0x23], .inc_IY),
  ([0xFD, 0x29], .add_IY_IY),
  ([0xFD, 0x2B], .dec_IY),
  ([0xFD, 0x39], .add_IY_SP)]

/-- 16-bit arithmetic: the words of opcode_table.json decode to their instructions, which encode to them. -/
theorem test_decode_arith16 : agree (wordsArith160 ++ wordsArith161) = true := by decide

noncomputable def wordsArith80 : List (List Byte × Instr) := [
  ([0x04], .inc_B),
  ([0x05], .dec_B),
  ([0x0C], .inc_C),
  ([0x0D], .dec_C),
  ([0x14], .inc_D),
  ([0x15], .dec_D),
  ([0x1C], .inc_E),
  ([0x1D], .dec_E),
  ([0x24], .inc_H),
  ([0x25], .dec_H),
  ([0x27], .daa),
  ([0x2C], .inc_L),
  ([0x2D], .dec_L),
  ([0x2F], .cpl),
  ([0x34], .inc_atHL),
  ([0x35], .dec_atHL)]
noncomputable def wordsArith81 : List (List Byte × Instr) := [
  ([0x37], .scf),
  ([0x3C], .inc_A),
  ([0x3D], .dec_A),
  ([0x3F], .ccf),
  ([0x80], .add_A_B),
  ([0x81], .add_A_C),
  ([0x82], .add_A_D),
  ([0x83], .add_A_E),
  ([0x84], .add_A_H),
  ([0x85], .add_A_L),
  ([0x86], .add_A_atHL),
  ([0x87], .add_A_A),
  ([0x88], .adc_A_B),
  ([0x89], .adc_A_C),
  ([0x8A], .adc_A_D),
  ([0x8B], .adc_A_E)]
noncomputable def wordsArith82 : List (List Byte × Instr) := [
  ([0x8C], .adc_A_H),
  ([0x8D], .adc_A_L),
  ([0x8E], .adc_A_atHL),
  ([0x8F], .adc_A_A),
  ([0x90], .sub_B),
  ([0x91], .sub_C),
  ([0x92], .sub_D),
  ([0x93], .sub_E),
  ([0x94], .sub_H),
  ([0x95], .sub_L),
  ([0x96], .sub_atHL),
  ([0x97], .sub_A),
  ([0x98], .sbc_A_B),
  ([0x99], .sbc_A_C),
  ([0x9A], .sbc_A_D),
  ([0x9B], .sbc_A_E)]
noncomputable def wordsArith83 : List (List Byte × Instr) := [
  ([0x9C], .sbc_A_H),
  ([0x9D], .sbc_A_L),
  ([0x9E], .sbc_A_atHL),
  ([0x9F], .sbc_A_A),
  ([0xA0], .and_B),
  ([0xA1], .and_C),
  ([0xA2], .and_D),
  ([0xA3], .and_E),
  ([0xA4], .and_H),
  ([0xA5], .and_L),
  ([0xA6], .and_atHL),
  ([0xA7], .and_A),
  ([0xA8], .xor_B),
  ([0xA9], .xor_C),
  ([0xAA], .xor_D),
  ([0xAB], .xor_E)]
noncomputable def wordsArith84 : List (List Byte × Instr) := [
  ([0xAC], .xor_H),
  ([0xAD], .xor_L),
  ([0xAE], .xor_atHL),
  ([0xAF], .xor_A),
  ([0xB0], .or_B),
  ([0xB1], .or_C),
  ([0xB2], .or_D),
  ([0xB3], .or_E),
  ([0xB4], .or_H),
  ([0xB5], .or_L),
  ([0xB6], .or_atHL),
  ([0xB7], .or_A),
  ([0xB8], .cp_B),
  ([0xB9], .cp_C),
  ([0xBA], .cp_D),
  ([0xBB], .cp_E)]
noncomputable def wordsArith85 : List (List Byte × Instr) := [
  ([0xBC], .cp_H),
  ([0xBD], .cp_L),
  ([0xBE], .cp_atHL),
  ([0xBF], .cp_A),
  ([0xC6, 0x3A], .add_A_n 0x3A),
  ([0xCE, 0x3A], .adc_A_n 0x3A),
  ([0xD6, 0x3A], .sub_n 0x3A),
  ([0xDE, 0x3A], .sbc_A_n 0x3A),
  ([0xE6, 0x3A], .and_n 0x3A),
  ([0xEE, 0x3A], .xor_n 0x3A),
  ([0xF6, 0x3A], .or_n 0x3A),
  ([0xFE, 0x3A], .cp_n 0x3A),
  ([0xED, 0x44], .neg),
  ([0xDD, 0x24], .inc_IXH),
  ([0xDD, 0x25], .dec_IXH),
  ([0xDD, 0x2C], .inc_IXL)]
noncomputable def wordsArith86 : List (List Byte × Instr) := [
  ([0xDD, 0x2D], .dec_IXL),
  ([0xDD, 0x34, 0x85], .inc_atIXd 0x85),
  ([0xDD, 0x35, 0x85], .dec_atIXd 0x85),
  ([0xDD, 0x84], .add_A_IXH),
  ([0xDD, 0x85], .add_A_IXL),
  ([0xDD, 0x86, 0x85], .add_A_atIXd 0x85),
  ([0xDD, 0x8C], .adc_A_IXH),
  ([0xDD, 0x8D], .adc_A_IXL),
  ([0xDD, 0x8E, 0x85], .adc_A_atIXd 0x85),
  ([0xDD, 0x94], .sub_IXH),
  ([0xDD, 0x95], .sub_IXL),
  ([0xDD, 0x96, 0x85], .sub_atIXd 0x85),
  ([0xDD, 0x9C], .sbc_A_IXH),
  ([0xDD, 0x9D], .sbc_A_IXL),
  ([0xDD, 0x9E, 0x85], .sbc_A_atIXd 0x85),
  ([0xDD, 0xA4], .and_IXH)]
noncomputable def wordsArith87 : List (List Byte × Instr) := [
  ([0xDD, 0xA5], .and_IXL),
  ([0xDD, 0xA6, 0x85], .and_atIXd 0x85),
  ([0xDD, 0xAC], .xor_IXH),
  ([0xDD, 0xAD], .xor_IXL),
  ([0xDD, 0xAE, 0x85], .xor_atIXd 0x85),
  ([0xDD, 0xB4], .or_IXH),
  ([0xDD, 0xB5], .or_IXL),
  ([0xDD, 0xB6, 0x85], .or_atIXd 0x85),
  ([0xDD, 0xBC], .cp_IXH),
  ([0xDD, 0xBD], .cp_IXL),
  ([0xDD, 0xBE, 0x85], .cp_atIXd 0x85),
  ([0xFD, 0x24], .inc_IYH),
  ([0xFD, 0x25], .dec_IYH),
  ([0xFD, 0x2C], .inc_IYL),
  ([0xFD, 0x2D], .dec_IYL),
  ([0xFD, 0x34, 0x85], .inc_atIYd 0x85)]
noncomputable def wordsArith88 : List (List Byte × Instr) := [
  ([0xFD, 0x35, 0x85], .dec_atIYd 0x85),
  ([0xFD, 0x84], .add_A_IYH),
  ([0xFD, 0x85], .add_A_IYL),
  ([0xFD, 0x86, 0x85], .add_A_atIYd 0x85),
  ([0xFD, 0x8C], .adc_A_IYH),
  ([0xFD, 0x8D], .adc_A_IYL),
  ([0xFD, 0x8E, 0x85], .adc_A_atIYd 0x85),
  ([0xFD, 0x94], .sub_IYH),
  ([0xFD, 0x95], .sub_IYL),
  ([0xFD, 0x96, 0x85], .sub_atIYd 0x85),
  ([0xFD, 0x9C], .sbc_A_IYH),
  ([0xFD, 0x9D], .sbc_A_IYL),
  ([0xFD, 0x9E, 0x85], .sbc_A_atIYd 0x85),
  ([0xFD, 0xA4], .and_IYH),
  ([0xFD, 0xA5], .and_IYL),
  ([0xFD, 0xA6, 0x85], .and_atIYd 0x85)]
noncomputable def wordsArith89 : List (List Byte × Instr) := [
  ([0xFD, 0xAC], .xor_IYH),
  ([0xFD, 0xAD], .xor_IYL),
  ([0xFD, 0xAE, 0x85], .xor_atIYd 0x85),
  ([0xFD, 0xB4], .or_IYH),
  ([0xFD, 0xB5], .or_IYL),
  ([0xFD, 0xB6, 0x85], .or_atIYd 0x85),
  ([0xFD, 0xBC], .cp_IYH),
  ([0xFD, 0xBD], .cp_IYL),
  ([0xFD, 0xBE, 0x85], .cp_atIYd 0x85)]

/-- 8-bit arithmetic: the words of opcode_table.json decode to their instructions, which encode to them. -/
theorem test_decode_arith8_0 : agree (wordsArith80 ++ wordsArith81 ++ wordsArith82 ++ wordsArith83) = true := by decide
/-- 8-bit arithmetic: the words of opcode_table.json decode to their instructions, which encode to them. -/
theorem test_decode_arith8_1 : agree (wordsArith84 ++ wordsArith85 ++ wordsArith86 ++ wordsArith87) = true := by decide
/-- 8-bit arithmetic: the words of opcode_table.json decode to their instructions, which encode to them. -/
theorem test_decode_arith8_2 : agree (wordsArith88 ++ wordsArith89) = true := by decide

noncomputable def wordsRotate0 : List (List Byte × Instr) := [
  ([0x07], .rlca),
  ([0x0F], .rrca),
  ([0x17], .rla),
  ([0x1F], .rra),
  ([0xCB, 0x00], .rlc_B),
  ([0xCB, 0x01], .rlc_C),
  ([0xCB, 0x02], .rlc_D),
  ([0xCB, 0x03], .rlc_E),
  ([0xCB, 0x04], .rlc_H),
  ([0xCB, 0x05], .rlc_L),
  ([0xCB, 0x06], .rlc_atHL),
  ([0xCB, 0x07], .rlc_A),
  ([0xCB, 0x08], .rrc_B),
  ([0xCB, 0x09], .rrc_C),
  ([0xCB, 0x0A], .rrc_D),
  ([0xCB, 0x0B], .rrc_E)]
noncomputable def wordsRotate1 : List (List Byte × Instr) := [
  ([0xCB, 0x0C], .rrc_H),
  ([0xCB, 0x0D], .rrc_L),
  ([0xCB, 0x0E], .rrc_atHL),
  ([0xCB, 0x0F], .rrc_A),
  ([0xCB, 0x10], .rl_B),
  ([0xCB, 0x11], .rl_C),
  ([0xCB, 0x12], .rl_D),
  ([0xCB, 0x13], .rl_E),
  ([0xCB, 0x14], .rl_H),
  ([0xCB, 0x15], .rl_L),
  ([0xCB, 0x16], .rl_atHL),
  ([0xCB, 0x17], .rl_A),
  ([0xCB, 0x18], .rr_B),
  ([0xCB, 0x19], .rr_C),
  ([0xCB, 0x1A], .rr_D),
  ([0xCB, 0x1B], .rr_E)]
noncomputable def wordsRotate2 : List (List Byte × Instr) := [
  ([0xCB, 0x1C], .rr_H),
  ([0xCB, 0x1D], .rr_L),
  ([0xCB, 0x1E], .rr_atHL),
  ([0xCB, 0x1F], .rr_A),
  ([0xCB, 0x20], .sla_B),
  ([0xCB, 0x21], .sla_C),
  ([0xCB, 0x22], .sla_D),
  ([0xCB, 0x23], .sla_E),
  ([0xCB, 0x24], .sla_H),
  ([0xCB, 0x25], .sla_L),
  ([0xCB, 0x26], .sla_atHL),
  ([0xCB, 0x27], .sla_A),
  ([0xCB, 0x28], .sra_B),
  ([0xCB, 0x29], .sra_C),
  ([0xCB, 0x2A], .sra_D),
  ([0xCB, 0x2B], .sra_E)]
noncomputable def wordsRotate3 : List (List Byte × Instr) := [
  ([0xCB, 0x2C], .sra_H),
  ([0xCB, 0x2D], .sra_L),
  ([0xCB, 0x2E], .sra_atHL),
  ([0xCB, 0x2F], .sra_A),
  ([0xCB, 0x30], .sll_B),
  ([0xCB, 0x31], .sll_C),
  ([0xCB, 0x32], .sll_D),
  ([0xCB, 0x33], .sll_E),
  ([0xCB, 0x34], .sll_H),
  ([0xCB, 0x35], .sll_L),
  ([0xCB, 0x36], .sll_atHL),
  ([0xCB, 0x37], .sll_A),
  ([0xCB, 0x38], .srl_B),
  ([0xCB, 0x39], .srl_C),
  ([0xCB, 0x3A], .srl_D),
  ([0xCB, 0x3B], .srl_E)]
noncomputable def wordsRotate4 : List (List Byte × Instr) := [
  ([0xCB, 0x3C], .srl_H),
  ([0xCB, 0x3D], .srl_L),
  ([0xCB, 0x3E], .srl_atHL),
  ([0xCB, 0x3F], .srl_A),
  ([0xED, 0x67], .rrd),
  ([0xED, 0x6F], .rld),
  ([0xDD, 0xCB, 0x85, 0x00], .rlc_atIXd_to_B 0x85),
  ([0xDD, 0xCB, 0x85, 0x01], .rlc_atIXd_to_C 0x85),
  ([0xDD, 0xCB, 0x85, 0x02], .rlc_atIXd_to_D 0x85),
  ([0xDD, 0xCB, 0x85, 0x03], .rlc_atIXd_to_E 0x85),
  ([0xDD, 0xCB, 0x85, 0x04], .rlc_atIXd_to_H 0x85),
  ([0xDD, 0xCB, 0x85, 0x05], .rlc_atIXd_to_L 0x85),
  ([0xDD, 0xCB, 0x85, 0x06], .rlc_atIXd 0x85),
  ([0xDD, 0xCB, 0x85, 0x07], .rlc_atIXd_to_A 0x85),
  ([0xDD, 0xCB, 0x85, 0x08], .rrc_atIXd_to_B 0x85),
  ([0xDD, 0xCB, 0x85, 0x09], .rrc_atIXd_to_C 0x85)]
noncomputable def wordsRotate5 : List (List Byte × Instr) := [
  ([0xDD, 0xCB, 0x85, 0x0A], .rrc_atIXd_to_D 0x85),
  ([0xDD, 0xCB, 0x85, 0x0B], .rrc_atIXd_to_E 0x85),
  ([0xDD, 0xCB, 0x85, 0x0C], .rrc_atIXd_to_H 0x85),
  ([0xDD, 0xCB, 0x85, 0x0D], .rrc_atIXd_to_L 0x85),
  ([0xDD, 0xCB, 0x85, 0x0E], .rrc_atIXd 0x85),
  ([0xDD, 0xCB, 0x85, 0x0F], .rrc_atIXd_to_A 0x85),
  ([0xDD, 0xCB, 0x85, 0x10], .rl_atIXd_to_B 0x85),
  ([0xDD, 0xCB, 0x85, 0x11], .rl_atIXd_to_C 0x85),
  ([0xDD, 0xCB, 0x85, 0x12], .rl_atIXd_to_D 0x85),
  ([0xDD, 0xCB, 0x85, 0x13], .rl_atIXd_to_E 0x85),
  ([0xDD, 0xCB, 0x85, 0x14], .rl_atIXd_to_H 0x85),
  ([0xDD, 0xCB, 0x85, 0x15], .rl_atIXd_to_L 0x85),
  ([0xDD, 0xCB, 0x85, 0x16], .rl_atIXd 0x85),
  ([0xDD, 0xCB, 0x85, 0x17], .rl_atIXd_to_A 0x85),
  ([0xDD, 0xCB, 0x85, 0x18], .rr_atIXd_to_B 0x85),
  ([0xDD, 0xCB, 0x85, 0x19], .rr_atIXd_to_C 0x85)]
noncomputable def wordsRotate6 : List (List Byte × Instr) := [
  ([0xDD, 0xCB, 0x85, 0x1A], .rr_atIXd_to_D 0x85),
  ([0xDD, 0xCB, 0x85, 0x1B], .rr_atIXd_to_E 0x85),
  ([0xDD, 0xCB, 0x85, 0x1C], .rr_atIXd_to_H 0x85),
  ([0xDD, 0xCB, 0x85, 0x1D], .rr_atIXd_to_L 0x85),
  ([0xDD, 0xCB, 0x85, 0x1E], .rr_atIXd 0x85),
  ([0xDD, 0xCB, 0x85, 0x1F], .rr_atIXd_to_A 0x85),
  ([0xDD, 0xCB, 0x85, 0x20], .sla_atIXd_to_B 0x85),
  ([0xDD, 0xCB, 0x85, 0x21], .sla_atIXd_to_C 0x85),
  ([0xDD, 0xCB, 0x85, 0x22], .sla_atIXd_to_D 0x85),
  ([0xDD, 0xCB, 0x85, 0x23], .sla_atIXd_to_E 0x85),
  ([0xDD, 0xCB, 0x85, 0x24], .sla_atIXd_to_H 0x85),
  ([0xDD, 0xCB, 0x85, 0x25], .sla_atIXd_to_L 0x85),
  ([0xDD, 0xCB, 0x85, 0x26], .sla_atIXd 0x85),
  ([0xDD, 0xCB, 0x85, 0x27], .sla_atIXd_to_A 0x85),
  ([0xDD, 0xCB, 0x85, 0x28], .sra_atIXd_to_B 0x85),
  ([0xDD, 0xCB, 0x85, 0x29], .sra_atIXd_to_C 0x85)]
noncomputable def wordsRotate7 : List (List Byte × Instr) := [
  ([0xDD, 0xCB, 0x85, 0x2A], .sra_atIXd_to_D 0x85),
  ([0xDD, 0xCB, 0x85, 0x2B], .sra_atIXd_to_E 0x85),
  ([0xDD, 0xCB, 0x85, 0x2C], .sra_atIXd_to_H 0x85),
  ([0xDD, 0xCB, 0x85, 0x2D], .sra_atIXd_to_L 0x85),
  ([0xDD, 0xCB, 0x85, 0x2E], .sra_atIXd 0x85),
  ([0xDD, 0xCB, 0x85, 0x2F], .sra_atIXd_to_A 0x85),
  ([0xDD, 0xCB, 0x85, 0x30], .sll_atIXd_to_B 0x85),
  ([0xDD, 0xCB, 0x85, 0x31], .sll_atIXd_to_C 0x85),
  ([0xDD, 0xCB, 0x85, 0x32], .sll_atIXd_to_D 0x85),
  ([0xDD, 0xCB, 0x85, 0x33], .sll_atIXd_to_E 0x85),
  ([0xDD, 0xCB, 0x85, 0x34], .sll_atIXd_to_H 0x85),
  ([0xDD, 0xCB, 0x85, 0x35], .sll_atIXd_to_L 0x85),
  ([0xDD, 0xCB, 0x85, 0x36], .sll_atIXd 0x85),
  ([0xDD, 0xCB, 0x85, 0x37], .sll_atIXd_to_A 0x85),
  ([0xDD, 0xCB, 0x85, 0x38], .srl_atIXd_to_B 0x85),
  ([0xDD, 0xCB, 0x85, 0x39], .srl_atIXd_to_C 0x85)]
noncomputable def wordsRotate8 : List (List Byte × Instr) := [
  ([0xDD, 0xCB, 0x85, 0x3A], .srl_atIXd_to_D 0x85),
  ([0xDD, 0xCB, 0x85, 0x3B], .srl_atIXd_to_E 0x85),
  ([0xDD, 0xCB, 0x85, 0x3C], .srl_atIXd_to_H 0x85),
  ([0xDD, 0xCB, 0x85, 0x3D], .srl_atIXd_to_L 0x85),
  ([0xDD, 0xCB, 0x85, 0x3E], .srl_atIXd 0x85),
  ([0xDD, 0xCB, 0x85, 0x3F], .srl_atIXd_to_A 0x85),
  ([0xFD, 0xCB, 0x85, 0x00], .rlc_atIYd_to_B 0x85),
  ([0xFD, 0xCB, 0x85, 0x01], .rlc_atIYd_to_C 0x85),
  ([0xFD, 0xCB, 0x85, 0x02], .rlc_atIYd_to_D 0x85),
  ([0xFD, 0xCB, 0x85, 0x03], .rlc_atIYd_to_E 0x85),
  ([0xFD, 0xCB, 0x85, 0x04], .rlc_atIYd_to_H 0x85),
  ([0xFD, 0xCB, 0x85, 0x05], .rlc_atIYd_to_L 0x85),
  ([0xFD, 0xCB, 0x85, 0x06], .rlc_atIYd 0x85),
  ([0xFD, 0xCB, 0x85, 0x07], .rlc_atIYd_to_A 0x85),
  ([0xFD, 0xCB, 0x85, 0x08], .rrc_atIYd_to_B 0x85),
  ([0xFD, 0xCB, 0x85, 0x09], .rrc_atIYd_to_C 0x85)]
noncomputable def wordsRotate9 : List (List Byte × Instr) := [
  ([0xFD, 0xCB, 0x85, 0x0A], .rrc_atIYd_to_D 0x85),
  ([0xFD, 0xCB, 0x85, 0x0B], .rrc_atIYd_to_E 0x85),
  ([0xFD, 0xCB, 0x85, 0x0C], .rrc_atIYd_to_H 0x85),
  ([0xFD, 0xCB, 0x85, 0x0D], .rrc_atIYd_to_L 0x85),
  ([0xFD, 0xCB, 0x85, 0x0E], .rrc_atIYd 0x85),
  ([0xFD, 0xCB, 0x85, 0x0F], .rrc_atIYd_to_A 0x85),
  ([0xFD, 0xCB, 0x85, 0x10], .rl_atIYd_to_B 0x85),
  ([0xFD, 0xCB, 0x85, 0x11], .rl_atIYd_to_C 0x85),
  ([0xFD, 0xCB, 0x85, 0x12], .rl_atIYd_to_D 0x85),
  ([0xFD, 0xCB, 0x85, 0x13], .rl_atIYd_to_E 0x85),
  ([0xFD, 0xCB, 0x85, 0x14], .rl_atIYd_to_H 0x85),
  ([0xFD, 0xCB, 0x85, 0x15], .rl_atIYd_to_L 0x85),
  ([0xFD, 0xCB, 0x85, 0x16], .rl_atIYd 0x85),
  ([0xFD, 0xCB, 0x85, 0x17], .rl_atIYd_to_A 0x85),
  ([0xFD, 0xCB, 0x85, 0x18], .rr_atIYd_to_B 0x85),
  ([0xFD, 0xCB, 0x85, 0x19], .rr_atIYd_to_C 0x85)]
noncomputable def wordsRotate10 : List (List Byte × Instr) := [
  ([0xFD, 0xCB, 0x85, 0x1A], .rr_atIYd_to_D 0x85),
  ([0xFD, 0xCB, 0x85, 0x1B], .rr_atIYd_to_E 0x85),
  ([0xFD, 0xCB, 0x85, 0x1C], .rr_atIYd_to_H 0x85),
  ([0xFD, 0xCB, 0x85, 0x1D], .rr_atIYd_to_L 0x85),
  ([0xFD, 0xCB, 0x85, 0x1E], .rr_atIYd 0x85),
  ([0xFD, 0xCB, 0x85, 0x1F], .rr_atIYd_to_A 0x85),
  ([0xFD, 0xCB, 0x85, 0x20], .sla_atIYd_to_B 0x85),
  ([0xFD, 0xCB, 0x85, 0x21], .sla_atIYd_to_C 0x85),
  ([0xFD, 0xCB, 0x85, 0x22], .sla_atIYd_to_D 0x85),
  ([0xFD, 0xCB, 0x85, 0x23], .sla_atIYd_to_E 0x85),
  ([0xFD, 0xCB, 0x85, 0x24], .sla_atIYd_to_H 0x85),
  ([0xFD, 0xCB, 0x85, 0x25], .sla_atIYd_to_L 0x85),
  ([0xFD, 0xCB, 0x85, 0x26], .sla_atIYd 0x85),
  ([0xFD, 0xCB, 0x85, 0x27], .sla_atIYd_to_A 0x85),
  ([0xFD, 0xCB, 0x85, 0x28], .sra_atIYd_to_B 0x85),
  ([0xFD, 0xCB, 0x85, 0x29], .sra_atIYd_to_C 0x85)]
noncomputable def wordsRotate11 : List (List Byte × Instr) := [
  ([0xFD, 0xCB, 0x85, 0x2A], .sra_atIYd_to_D 0x85),
  ([0xFD, 0xCB, 0x85, 0x2B], .sra_atIYd_to_E 0x85),
  ([0xFD, 0xCB, 0x85, 0x2C], .sra_atIYd_to_H 0x85),
  ([0xFD, 0xCB, 0x85, 0x2D], .sra_atIYd_to_L 0x85),
  ([0xFD, 0xCB, 0x85, 0x2E], .sra_atIYd 0x85),
  ([0xFD, 0xCB, 0x85, 0x2F], .sra_atIYd_to_A 0x85),
  ([0xFD, 0xCB, 0x85, 0x30], .sll_atIYd_to_B 0x85),
  ([0xFD, 0xCB, 0x85, 0x31], .sll_atIYd_to_C 0x85),
  ([0xFD, 0xCB, 0x85, 0x32], .sll_atIYd_to_D 0x85),
  ([0xFD, 0xCB, 0x85, 0x33], .sll_atIYd_to_E 0x85),
  ([0xFD, 0xCB, 0x85, 0x34], .sll_atIYd_to_H 0x85),
  ([0xFD, 0xCB, 0x85, 0x35], .sll_atIYd_to_L 0x85),
  ([0xFD, 0xCB, 0x85, 0x36], .sll_atIYd 0x85),
  ([0xFD, 0xCB, 0x85, 0x37], .sll_atIYd_to_A 0x85),
  ([0xFD, 0xCB, 0x85, 0x38], .srl_atIYd_to_B 0x85),
  ([0xFD, 0xCB, 0x85, 0x39], .srl_atIYd_to_C 0x85)]
noncomputable def wordsRotate12 : List (List Byte × Instr) := [
  ([0xFD, 0xCB, 0x85, 0x3A], .srl_atIYd_to_D 0x85),
  ([0xFD, 0xCB, 0x85, 0x3B], .srl_atIYd_to_E 0x85),
  ([0xFD, 0xCB, 0x85, 0x3C], .srl_atIYd_to_H 0x85),
  ([0xFD, 0xCB, 0x85, 0x3D], .srl_atIYd_to_L 0x85),
  ([0xFD, 0xCB, 0x85, 0x3E], .srl_atIYd 0x85),
  ([0xFD, 0xCB, 0x85, 0x3F], .srl_atIYd_to_A 0x85)]

/-- Rotates and shifts: the words of opcode_table.json decode to their instructions, which encode to them. -/
theorem test_decode_rotate_0 : agree (wordsRotate0 ++ wordsRotate1 ++ wordsRotate2 ++ wordsRotate3) = true := by decide
/-- Rotates and shifts: the words of opcode_table.json decode to their instructions, which encode to them. -/
theorem test_decode_rotate_1 : agree (wordsRotate4 ++ wordsRotate5 ++ wordsRotate6 ++ wordsRotate7) = true := by decide
/-- Rotates and shifts: the words of opcode_table.json decode to their instructions, which encode to them. -/
theorem test_decode_rotate_2 : agree (wordsRotate8 ++ wordsRotate9 ++ wordsRotate10 ++ wordsRotate11) = true := by decide
/-- Rotates and shifts: the words of opcode_table.json decode to their instructions, which encode to them. -/
theorem test_decode_rotate_3 : agree (wordsRotate12) = true := by decide

noncomputable def wordsControl0 : List (List Byte × Instr) := [
  ([0x10, 0xF1], .djnz_e 0xF1),
  ([0x18, 0xF1], .jr_e 0xF1),
  ([0x20, 0xF1], .jr_NZ_e 0xF1),
  ([0x28, 0xF1], .jr_Z_e 0xF1),
  ([0x30, 0xF1], .jr_NC_e 0xF1),
  ([0x38, 0xF1], .jr_C_e 0xF1),
  ([0xC0], .ret_NZ),
  ([0xC2, 0x34, 0x12], .jp_NZ_nn 0x1234),
  ([0xC3, 0x34, 0x12], .jp_nn 0x1234),
  ([0xC4, 0x34, 0x12], .call_NZ_nn 0x1234),
  ([0xC7], .rst_00H),
  ([0xC8], .ret_Z),
  ([0xC9], .ret),
  ([0xCA, 0x34, 0x12], .jp_Z_nn 0x1234),
  ([0xCC, 0x34, 0x12], .call_Z_nn 0x1234),
  ([0xCD, 0x34, 0x12], .call_nn 0x1234)]
noncomputable def wordsControl1 : List (List Byte × Instr) := [
  ([0xCF], .rst_08H),
  ([0xD0], .ret_NC),
  ([0xD2, 0x34, 0x12], .jp_NC_nn 0x1234),
  ([0xD4, 0x34, 0x12], .call_NC_nn 0x1234),
  ([0xD7], .rst_10H),
  ([0xD8], .ret_C),
  ([0xDA, 0x34, 0x12], .jp_C_nn 0x1234),
  ([0xDC, 0x34, 0x12], .call_C_nn 0x1234),
  ([0xDF], .rst_18H),
  ([0xE0], .ret_PO),
  ([0xE2, 0x34, 0x12], .jp_PO_nn 0x1234),
  ([0xE4, 0x34, 0x12], .call_PO_nn 0x1234),
  ([0xE7], .rst_20H),
  ([0xE8], .ret_PE),
  ([0xE9], .jp_atHL),
  ([0xEA, 0x34, 0x12], .jp_PE_nn 0x1234)]
noncomputable def wordsControl2 : List (List Byte × Instr) := [
  ([0xEC, 0x34, 0x12], .call_PE_nn 0x1234),
  ([0xEF], .rst_28H),
  ([0xF0], .ret_P),
  ([0xF2, 0x34, 0x12], .jp_P_nn 0x1234),
  ([0xF4, 0x34, 0x12], .call_P_nn 0x1234),
  ([0xF7], .rst_30H),
  ([0xF8], .ret_M),
  ([0xFA, 0x34, 0x12], .jp_M_nn 0x1234),
  ([0xFC, 0x34, 0x12], .call_M_nn 0x1234),
  ([0xFF], .rst_38H),
  ([0xED, 0x45], .retn),
  ([0xED, 0x4D], .reti),
  ([0xDD, 0xE9], .jp_atIX),
  ([0xFD, 0xE9], .jp_atIY)]

/-- Control transfer: the words of opcode_table.json decode to their instructions, which encode to them. -/
theorem test_decode_control : agree (wordsControl0 ++ wordsControl1 ++ wordsControl2) = true := by decide

noncomputable def wordsBitOps0 : List (List Byte × Instr) := [
  ([0xCB, 0x40], .bit_0_B),
  ([0xCB, 0x41], .bit_0_C),
  ([0xCB, 0x42], .bit_0_D),
  ([0xCB, 0x43], .bit_0_E),
  ([0xCB, 0x44], .bit_0_H),
  ([0xCB, 0x45], .bit_0_L),
  ([0xCB, 0x46], .bit_0_atHL),
  ([0xCB, 0x47], .bit_0_A),
  ([0xCB, 0x48], .bit_1_B),
  ([0xCB, 0x49], .bit_1_C),
  ([0xCB, 0x4A], .bit_1_D),
  ([0xCB, 0x4B], .bit_1_E),
  ([0xCB, 0x4C], .bit_1_H),
  ([0xCB, 0x4D], .bit_1_L),
  ([0xCB, 0x4E], .bit_1_atHL),
  ([0xCB, 0x4F], .bit_1_A)]
noncomputable def wordsBitOps1 : List (List Byte × Instr) := [
  ([0xCB, 0x50], .bit_2_B),
  ([0xCB, 0x51], .bit_2_C),
  ([0xCB, 0x52], .bit_2_D),
  ([0xCB, 0x53], .bit_2_E),
  ([0xCB, 0x54], .bit_2_H),
  ([0xCB, 0x55], .bit_2_L),
  ([0xCB, 0x56], .bit_2_atHL),
  ([0xCB, 0x57], .bit_2_A),
  ([0xCB, 0x58], .bit_3_B),
  ([0xCB, 0x59], .bit_3_C),
  ([0xCB, 0x5A], .bit_3_D),
  ([0xCB, 0x5B], .bit_3_E),
  ([0xCB, 0x5C], .bit_3_H),
  ([0xCB, 0x5D], .bit_3_L),
  ([0xCB, 0x5E], .bit_3_atHL),
  ([0xCB, 0x5F], .bit_3_A)]
noncomputable def wordsBitOps2 : List (List Byte × Instr) := [
  ([0xCB, 0x60], .bit_4_B),
  ([0xCB, 0x61], .bit_4_C),
  ([0xCB, 0x62], .bit_4_D),
  ([0xCB, 0x63], .bit_4_E),
  ([0xCB, 0x64], .bit_4_H),
  ([0xCB, 0x65], .bit_4_L),
  ([0xCB, 0x66], .bit_4_atHL),
  ([0xCB, 0x67], .bit_4_A),
  ([0xCB, 0x68], .bit_5_B),
  ([0xCB, 0x69], .bit_5_C),
  ([0xCB, 0x6A], .bit_5_D),
  ([0xCB, 0x6B], .bit_5_E),
  ([0xCB, 0x6C], .bit_5_H),
  ([0xCB, 0x6D], .bit_5_L),
  ([0xCB, 0x6E], .bit_5_atHL),
  ([0xCB, 0x6F], .bit_5_A)]
noncomputable def wordsBitOps3 : List (List Byte × Instr) := [
  ([0xCB, 0x70], .bit_6_B),
  ([0xCB, 0x71], .bit_6_C),
  ([0xCB, 0x72], .bit_6_D),
  ([0xCB, 0x73], .bit_6_E),
  ([0xCB, 0x74], .bit_6_H),
  ([0xCB, 0x75], .bit_6_L),
  ([0xCB, 0x76], .bit_6_atHL),
  ([0xCB, 0x77], .bit_6_A),
  ([0xCB, 0x78], .bit_7_B),
  ([0xCB, 0x79], .bit_7_C),
  ([0xCB, 0x7A], .bit_7_D),
  ([0xCB, 0x7B], .bit_7_E),
  ([0xCB, 0x7C], .bit_7_H),
  ([0xCB, 0x7D], .bit_7_L),
  ([0xCB, 0x7E], .bit_7_atHL),
  ([0xCB, 0x7F], .bit_7_A)]
noncomputable def wordsBitOps4 : List (List Byte × Instr) := [
  ([0xCB, 0x80], .res_0_B),
  ([0xCB, 0x81], .res_0_C),
  ([0xCB, 0x82], .res_0_D),
  ([0xCB, 0x83], .res_0_E),
  ([0xCB, 0x84], .res_0_H),
  ([0xCB, 0x85], .res_0_L),
  ([0xCB, 0x86], .res_0_atHL),
  ([0xCB, 0x87], .res_0_A),
  ([0xCB, 0x88], .res_1_B),
  ([0xCB, 0x89], .res_1_C),
  ([0xCB, 0x8A], .res_1_D),
  ([0xCB, 0x8B], .res_1_E),
  ([0xCB, 0x8C], .res_1_H),
  ([0xCB, 0x8D], .res_1_L),
  ([0xCB, 0x8E], .res_1_atHL),
  ([0xCB, 0x8F], .res_1_A)]
noncomputable def wordsBitOps5 : List (List Byte × Instr) := [
  ([0xCB, 0x90], .res_2_B),
  ([0xCB, 0x91], .res_2_C),
  ([0xCB, 0x92], .res_2_D),
  ([0xCB, 0x93], .res_2_E),
  ([0xCB, 0x94], .res_2_H),
  ([0xCB, 0x95], .res_2_L),
  ([0xCB, 0x96], .res_2_atHL),
  ([0xCB, 0x97], .res_2_A),
  ([0xCB, 0x98], .res_3_B),
  ([0xCB, 0x99], .res_3_C),
  ([0xCB, 0x9A], .res_3_D),
  ([0xCB, 0x9B], .res_3_E),
  ([0xCB, 0x9C], .res_3_H),
  ([0xCB, 0x9D], .res_3_L),
  ([0xCB, 0x9E], .res_3_atHL),
  ([0xCB, 0x9F], .res_3_A)]
noncomputable def wordsBitOps6 : List (List Byte × Instr) := [
  ([0xCB, 0xA0], .res_4_B),
  ([0xCB, 0xA1], .res_4_C),
  ([0xCB, 0xA2], .res_4_D),
  ([0xCB, 0xA3], .res_4_E),
  ([0xCB, 0xA4], .res_4_H),
  ([0xCB, 0xA5], .res_4_L),
  ([0xCB, 0xA6], .res_4_atHL),
  ([0xCB, 0xA7], .res_4_A),
  ([0xCB, 0xA8], .res_5_B),
  ([0xCB, 0xA9], .res_5_C),
  ([0xCB, 0xAA], .res_5_D),
  ([0xCB, 0xAB], .res_5_E),
  ([0xCB, 0xAC], .res_5_H),
  ([0xCB, 0xAD], .res_5_L),
  ([0xCB, 0xAE], .res_5_atHL),
  ([0xCB, 0xAF], .res_5_A)]
noncomputable def wordsBitOps7 : List (List Byte × Instr) := [
  ([0xCB, 0xB0], .res_6_B),
  ([0xCB, 0xB1], .res_6_C),
  ([0xCB, 0xB2], .res_6_D),
  ([0xCB, 0xB3], .res_6_E),
  ([0xCB, 0xB4], .res_6_H),
  ([0xCB, 0xB5], .res_6_L),
  ([0xCB, 0xB6], .res_6_atHL),
  ([0xCB, 0xB7], .res_6_A),
  ([0xCB, 0xB8], .res_7_B),
  ([0xCB, 0xB9], .res_7_C),
  ([0xCB, 0xBA], .res_7_D),
  ([0xCB, 0xBB], .res_7_E),
  ([0xCB, 0xBC], .res_7_H),
  ([0xCB, 0xBD], .res_7_L),
  ([0xCB, 0xBE], .res_7_atHL),
  ([0xCB, 0xBF], .res_7_A)]
noncomputable def wordsBitOps8 : List (List Byte × Instr) := [
  ([0xCB, 0xC0], .set_0_B),
  ([0xCB, 0xC1], .set_0_C),
  ([0xCB, 0xC2], .set_0_D),
  ([0xCB, 0xC3], .set_0_E),
  ([0xCB, 0xC4], .set_0_H),
  ([0xCB, 0xC5], .set_0_L),
  ([0xCB, 0xC6], .set_0_atHL),
  ([0xCB, 0xC7], .set_0_A),
  ([0xCB, 0xC8], .set_1_B),
  ([0xCB, 0xC9], .set_1_C),
  ([0xCB, 0xCA], .set_1_D),
  ([0xCB, 0xCB], .set_1_E),
  ([0xCB, 0xCC], .set_1_H),
  ([0xCB, 0xCD], .set_1_L),
  ([0xCB, 0xCE], .set_1_atHL),
  ([0xCB, 0xCF], .set_1_A)]
noncomputable def wordsBitOps9 : List (List Byte × Instr) := [
  ([0xCB, 0xD0], .set_2_B),
  ([0xCB, 0xD1], .set_2_C),
  ([0xCB, 0xD2], .set_2_D),
  ([0xCB, 0xD3], .set_2_E),
  ([0xCB, 0xD4], .set_2_H),
  ([0xCB, 0xD5], .set_2_L),
  ([0xCB, 0xD6], .set_2_atHL),
  ([0xCB, 0xD7], .set_2_A),
  ([0xCB, 0xD8], .set_3_B),
  ([0xCB, 0xD9], .set_3_C),
  ([0xCB, 0xDA], .set_3_D),
  ([0xCB, 0xDB], .set_3_E),
  ([0xCB, 0xDC], .set_3_H),
  ([0xCB, 0xDD], .set_3_L),
  ([0xCB, 0xDE], .set_3_atHL),
  ([0xCB, 0xDF], .set_3_A)]
noncomputable def wordsBitOps10 : List (List Byte × Instr) := [
  ([0xCB, 0xE0], .set_4_B),
  ([0xCB, 0xE1], .set_4_C),
  ([0xCB, 0xE2], .set_4_D),
  ([0xCB, 0xE3], .set_4_E),
  ([0xCB, 0xE4], .set_4_H),
  ([0xCB, 0xE5], .set_4_L),
  ([0xCB, 0xE6], .set_4_atHL),
  ([0xCB, 0xE7], .set_4_A),
  ([0xCB, 0xE8], .set_5_B),
  ([0xCB, 0xE9], .set_5_C),
  ([0xCB, 0xEA], .set_5_D),
  ([0xCB, 0xEB], .set_5_E),
  ([0xCB, 0xEC], .set_5_H),
  ([0xCB, 0xED], .set_5_L),
  ([0xCB, 0xEE], .set_5_atHL),
  ([0xCB, 0xEF], .set_5_A)]
noncomputable def wordsBitOps11 : List (List Byte × Instr) := [
  ([0xCB, 0xF0], .set_6_B),
  ([0xCB, 0xF1], .set_6_C),
  ([0xCB, 0xF2], .set_6_D),
  ([0xCB, 0xF3], .set_6_E),
  ([0xCB, 0xF4], .set_6_H),
  ([0xCB, 0xF5], .set_6_L),
  ([0xCB, 0xF6], .set_6_atHL),
  ([0xCB, 0xF7], .set_6_A),
  ([0xCB, 0xF8], .set_7_B),
  ([0xCB, 0xF9], .set_7_C),
  ([0xCB, 0xFA], .set_7_D),
  ([0xCB, 0xFB], .set_7_E),
  ([0xCB, 0xFC], .set_7_H),
  ([0xCB, 0xFD], .set_7_L),
  ([0xCB, 0xFE], .set_7_atHL),
  ([0xCB, 0xFF], .set_7_A)]
noncomputable def wordsBitOps12 : List (List Byte × Instr) := [
  ([0xDD, 0xCB, 0x85, 0x47], .bit_0_atIXd 0x85 7),
  ([0xDD, 0xCB, 0x85, 0x48], .bit_1_atIXd 0x85 0),
  ([0xDD, 0xCB, 0x85, 0x51], .bit_2_atIXd 0x85 1),
  ([0xDD, 0xCB, 0x85, 0x5A], .bit_3_atIXd 0x85 2),
  ([0xDD, 0xCB, 0x85, 0x63], .bit_4_atIXd 0x85 3),
  ([0xDD, 0xCB, 0x85, 0x6C], .bit_5_atIXd 0x85 4),
  ([0xDD, 0xCB, 0x85, 0x75], .bit_6_atIXd 0x85 5),
  ([0xDD, 0xCB, 0x85, 0x7E], .bit_7_atIXd 0x85 6),
  ([0xDD, 0xCB, 0x85, 0x80], .res_0_atIXd_to_B 0x85),
  ([0xDD, 0xCB, 0x85, 0x81], .res_0_atIXd_to_C 0x85),
  ([0xDD, 0xCB, 0x85, 0x82], .res_0_atIXd_to_D 0x85),
  ([0xDD, 0xCB, 0x85, 0x83], .res_0_atIXd_to_E 0x85),
  ([0xDD, 0xCB, 0x85, 0x84], .res_0_atIXd_to_H 0x85),
  ([0xDD, 0xCB, 0x85, 0x85], .res_0_atIXd_to_L 0x85),
  ([0xDD, 0xCB, 0x85, 0x86], .res_0_atIXd 0x85),
  ([0xDD, 0xCB, 0x85, 0x87], .res_0_atIXd_to_A 0x85)]
noncomputable def wordsBitOps13 : List (List Byte × Instr) := [
  ([0xDD, 0xCB, 0x85, 0x88], .res_1_atIXd_to_B 0x85),
  ([0xDD, 0xCB, 0x85, 0x89], .res_1_atIXd_to_C 0x85),
  ([0xDD, 0xCB, 0x85, 0x8A], .res_1_atIXd_to_D 0x85),
  ([0xDD, 0xCB, 0x85, 0x8B], .res_1_atIXd_to_E 0x85),
  ([0xDD, 0xCB, 0x85, 0x8C], .res_1_atIXd_to_H 0x85),
  ([0xDD, 0xCB, 0x85, 0x8D], .res_1_atIXd_to_L 0x85),
  ([0xDD, 0xCB, 0x85, 0x8E], .res_1_atIXd 0x85),
  ([0xDD, 0xCB, 0x85, 0x8F], .res_1_atIXd_to_A 0x85),
  ([0xDD, 0xCB, 0x85, 0x90], .res_2_atIXd_to_B 0x85),
  ([0xDD, 0xCB, 0x85, 0x91], .res_2_atIXd_to_C 0x85),
  ([0xDD, 0xCB, 0x85, 0x92], .res_2_atIXd_to_D 0x85),
  ([0xDD, 0xCB, 0x85, 0x93], .res_2_atIXd_to_E 0x85),
  ([0xDD, 0xCB, 0x85, 0x94], .res_2_atIXd_to_H 0x85),
  ([0xDD, 0xCB, 0x85, 0x95], .res_2_atIXd_to_L 0x85),
  ([0xDD, 0xCB, 0x85, 0x96], .res_2_atIXd 0x85),
  ([0xDD, 0xCB, 0x85, 0x97], .res_2_atIXd_to_A 0x85)]
noncomputable def wordsBitOps14 : List (List Byte × Instr) := [
  ([0xDD, 0xCB, 0x85, 0x98], .res_3_atIXd_to_B 0x85),
  ([0xDD, 0xCB, 0x85, 0x99], .res_3_atIXd_to_C 0x85),
  ([0xDD, 0xCB, 0x85, 0x9A], .res_3_atIXd_to_D 0x85),
  ([0xDD, 0xCB, 0x85, 0x9B], .res_3_atIXd_to_E 0x85),
  ([0xDD, 0xCB, 0x85, 0x9C], .res_3_atIXd_to_H 0x85),
  ([0xDD, 0xCB, 0x85, 0x9D], .res_3_atIXd_to_L 0x85),
  ([0xDD, 0xCB, 0x85, 0x9E], .res_3_atIXd 0x85),
  ([0xDD, 0xCB, 0x85, 0x9F], .res_3_atIXd_to_A 0x85),
  ([0xDD, 0xCB, 0x85, 0xA0], .res_4_atIXd_to_B 0x85),
  ([0xDD, 0xCB, 0x85, 0xA1], .res_4_atIXd_to_C 0x85),
  ([0xDD, 0xCB, 0x85, 0xA2], .res_4_atIXd_to_D 0x85),
  ([0xDD, 0xCB, 0x85, 0xA3], .res_4_atIXd_to_E 0x85),
  ([0xDD, 0xCB, 0x85, 0xA4], .res_4_atIXd_to_H 0x85),
  ([0xDD, 0xCB, 0x85, 0xA5], .res_4_atIXd_to_L 0x85),
  ([0xDD, 0xCB, 0x85, 0xA6], .res_4_atIXd 0x85),
  ([0xDD, 0xCB, 0x85, 0xA7], .res_4_atIXd_to_A 0x85)]
noncomputable def wordsBitOps15 : List (List Byte × Instr) := [
  ([0xDD, 0xCB, 0x85, 0xA8], .res_5_atIXd_to_B 0x85),
  ([0xDD, 0xCB, 0x85, 0xA9], .res_5_atIXd_to_C 0x85),
  ([0xDD, 0xCB, 0x85, 0xAA], .res_5_atIXd_to_D 0x85),
  ([0xDD, 0xCB, 0x85, 0xAB], .res_5_atIXd_to_E 0x85),
  ([0xDD, 0xCB, 0x85, 0xAC], .res_5_atIXd_to_H 0x85),
  ([0xDD, 0xCB, 0x85, 0xAD], .res_5_atIXd_to_L 0x85),
  ([0xDD, 0xCB, 0x85, 0xAE], .res_5_atIXd 0x85),
  ([0xDD, 0xCB, 0x85, 0xAF], .res_5_atIXd_to_A 0x85),
  ([0xDD, 0xCB, 0x85, 0xB0], .res_6_atIXd_to_B 0x85),
  ([0xDD, 0xCB, 0x85, 0xB1], .res_6_atIXd_to_C 0x85),
  ([0xDD, 0xCB, 0x85, 0xB2], .res_6_atIXd_to_D 0x85),
  ([0xDD, 0xCB, 0x85, 0xB3], .res_6_atIXd_to_E 0x85),
  ([0xDD, 0xCB, 0x85, 0xB4], .res_6_atIXd_to_H 0x85),
  ([0xDD, 0xCB, 0x85, 0xB5], .res_6_atIXd_to_L 0x85),
  ([0xDD, 0xCB, 0x85, 0xB6], .res_6_atIXd 0x85),
  ([0xDD, 0xCB, 0x85, 0xB7], .res_6_atIXd_to_A 0x85)]
noncomputable def wordsBitOps16 : List (List Byte × Instr) := [
  ([0xDD, 0xCB, 0x85, 0xB8], .res_7_atIXd_to_B 0x85),
  ([0xDD, 0xCB, 0x85, 0xB9], .res_7_atIXd_to_C 0x85),
  ([0xDD, 0xCB, 0x85, 0xBA], .res_7_atIXd_to_D 0x85),
  ([0xDD, 0xCB, 0x85, 0xBB], .res_7_atIXd_to_E 0x85),
  ([0xDD, 0xCB, 0x85, 0xBC], .res_7_atIXd_to_H 0x85),
  ([0xDD, 0xCB, 0x85, 0xBD], .res_7_atIXd_to_L 0x85),
  ([0xDD, 0xCB, 0x85, 0xBE], .res_7_atIXd 0x85),
  ([0xDD, 0xCB, 0x85, 0xBF], .res_7_atIXd_to_A 0x85),
  ([0xDD, 0xCB, 0x85, 0xC0], .set_0_atIXd_to_B 0x85),
  ([0xDD, 0xCB, 0x85, 0xC1], .set_0_atIXd_to_C 0x85),
  ([0xDD, 0xCB, 0x85, 0xC2], .set_0_atIXd_to_D 0x85),
  ([0xDD, 0xCB, 0x85, 0xC3], .set_0_atIXd_to_E 0x85),
  ([0xDD, 0xCB, 0x85, 0xC4], .set_0_atIXd_to_H 0x85),
  ([0xDD, 0xCB, 0x85, 0xC5], .set_0_atIXd_to_L 0x85),
  ([0xDD, 0xCB, 0x85, 0xC6], .set_0_atIXd 0x85),
  ([0xDD, 0xCB, 0x85, 0xC7], .set_0_atIXd_to_A 0x85)]
noncomputable def wordsBitOps17 : List (List Byte × Instr) := [
  ([0xDD, 0xCB, 0x85, 0xC8], .set_1_atIXd_to_B 0x85),
  ([0xDD, 0xCB, 0x85, 0xC9], .set_1_atIXd_to_C 0x85),
  ([0xDD, 0xCB, 0x85, 0xCA], .set_1_atIXd_to_D 0x85),
  ([0xDD, 0xCB, 0x85, 0xCB], .set_1_atIXd_to_E 0x85),
  ([0xDD, 0xCB, 0x85, 0xCC], .set_1_atIXd_to_H 0x85),
  ([0xDD, 0xCB, 0x85, 0xCD], .set_1_atIXd_to_L 0x85),
  ([0xDD, 0xCB, 0x85, 0xCE], .set_1_atIXd 0x85),
  ([0xDD, 0xCB, 0x85, 0xCF], .set_1_atIXd_to_A 0x85),
  ([0xDD, 0xCB, 0x85, 0xD0], .set_2_atIXd_to_B 0x85),
  ([0xDD, 0xCB, 0x85, 0xD1], .set_2_atIXd_to_C 0x85),
  ([0xDD, 0xCB, 0x85, 0xD2], .set_2_atIXd_to_D 0x85),
  ([0xDD, 0xCB, 0x85, 0xD3], .set_2_atIXd_to_E 0x85),
  ([0xDD, 0xCB, 0x85, 0xD4], .set_2_atIXd_to_H 0x85),
  ([0xDD, 0xCB, 0x85, 0xD5], .set_2_atIXd_to_L 0x85),
  ([0xDD, 0xCB, 0x85, 0xD6], .set_2_atIXd 0x85),
  ([0xDD, 0xCB, 0x85, 0xD7], .set_2_atIXd_to_A 0x85)]
noncomputable def wordsBitOps18 : List (List Byte × Instr) := [
  ([0xDD, 0xCB, 0x85, 0xD8], .set_3_atIXd_to_B 0x85),
  ([0xDD, 0xCB, 0x85, 0xD9], .set_3_atIXd_to_C 0x85),
  ([0xDD, 0xCB, 0x85, 0xDA], .set_3_atIXd_to_D 0x85),
  ([0xDD, 0xCB, 0x85, 0xDB], .set_3_atIXd_to_E 0x85),
  ([0xDD, 0xCB, 0x85, 0xDC], .set_3_atIXd_to_H 0x85),
  ([0xDD, 0xCB, 0x85, 0xDD], .set_3_atIXd_to_L 0x85),
  ([0xDD, 0xCB, 0x85, 0xDE], .set_3_atIXd 0x85),
  ([0xDD, 0xCB, 0x85, 0xDF], .set_3_atIXd_to_A 0x85),
  ([0xDD, 0xCB, 0x85, 0xE0], .set_4_atIXd_to_B 0x85),
  ([0xDD, 0xCB, 0x85, 0xE1], .set_4_atIXd_to_C 0x85),
  ([0xDD, 0xCB, 0x85, 0xE2], .set_4_atIXd_to_D 0x85),
  ([0xDD, 0xCB, 0x85, 0xE3], .set_4_atIXd_to_E 0x85),
  ([0xDD, 0xCB, 0x85, 0xE4], .set_4_atIXd_to_H 0x85),
  ([0xDD, 0xCB, 0x85, 0xE5], .set_4_atIXd_to_L 0x85),
  ([0xDD, 0xCB, 0x85, 0xE6], .set_4_atIXd 0x85),
  ([0xDD, 0xCB, 0x85, 0xE7], .set_4_atIXd_to_A 0x85)]
noncomputable def wordsBitOps19 : List (List Byte × Instr) := [
  ([0xDD, 0xCB, 0x85, 0xE8], .set_5_atIXd_to_B 0x85),
  ([0xDD, 0xCB, 0x85, 0xE9], .set_5_atIXd_to_C 0x85),
  ([0xDD, 0xCB, 0x85, 0xEA], .set_5_atIXd_to_D 0x85),
  ([0xDD, 0xCB, 0x85, 0xEB], .set_5_atIXd_to_E 0x85),
  ([0xDD, 0xCB, 0x85, 0xEC], .set_5_atIXd_to_H 0x85),
  ([0xDD, 0xCB, 0x85, 0xED], .set_5_atIXd_to_L 0x85),
  ([0xDD, 0xCB, 0x85, 0xEE], .set_5_atIXd 0x85),
  ([0xDD, 0xCB, 0x85, 0xEF], .set_5_atIXd_to_A 0x85),
  ([0xDD, 0xCB, 0x85, 0xF0], .set_6_atIXd_to_B 0x85),
  ([0xDD, 0xCB, 0x85, 0xF1], .set_6_atIXd_to_C 0x85),
  ([0xDD, 0xCB, 0x85, 0xF2], .set_6_atIXd_to_D 0x85),
  ([0xDD, 0xCB, 0x85, 0xF3], .set_6_atIXd_to_E 0x85),
  ([0xDD, 0xCB, 0x85, 0xF4], .set_6_atIXd_to_H 0x85),
  ([0xDD, 0xCB, 0x85, 0xF5], .set_6_atIXd_to_L 0x85),
  ([0xDD, 0xCB, 0x85, 0xF6], .set_6_atIXd 0x85),
  ([0xDD, 0xCB, 0x85, 0xF7], .set_6_atIXd_to_A 0x85)]
noncomputable def wordsBitOps20 : List (List Byte × Instr) := [
  ([0xDD, 0xCB, 0x85, 0xF8], .set_7_atIXd_to_B 0x85),
  ([0xDD, 0xCB, 0x85, 0xF9], .set_7_atIXd_to_C 0x85),
  ([0xDD, 0xCB, 0x85, 0xFA], .set_7_atIXd_to_D 0x85),
  ([0xDD, 0xCB, 0x85, 0xFB], .set_7_atIXd_to_E 0x85),
  ([0xDD, 0xCB, 0x85, 0xFC], .set_7_atIXd_to_H 0x85),
  ([0xDD, 0xCB, 0x85, 0xFD], .set_7_atIXd_to_L 0x85),
  ([0xDD, 0xCB, 0x85, 0xFE], .set_7_atIXd 0x85),
  ([0xDD, 0xCB, 0x85, 0xFF], .set_7_atIXd_to_A 0x85),
  ([0xFD, 0xCB, 0x85, 0x40], .bit_0_atIYd 0x85 0),
  ([0xFD, 0xCB, 0x85, 0x49], .bit_1_atIYd 0x85 1),
  ([0xFD, 0xCB, 0x85, 0x52], .bit_2_atIYd 0x85 2),
  ([0xFD, 0xCB, 0x85, 0x5B], .bit_3_atIYd 0x85 3),
  ([0xFD, 0xCB, 0x85, 0x64], .bit_4_atIYd 0x85 4),
  ([0xFD, 0xCB, 0x85, 0x6D], .bit_5_atIYd 0x85 5),
  ([0xFD, 0xCB, 0x85, 0x76], .bit_6_atIYd 0x85 6),
  ([0xFD, 0xCB, 0x85, 0x7F], .bit_7_atIYd 0x85 7)]
noncomputable def wordsBitOps21 : List (List Byte × Instr) := [
  ([0xFD, 0xCB, 0x85, 0x80], .res_0_atIYd_to_B 0x85),
  ([0xFD, 0xCB, 0x85, 0x81], .res_0_atIYd_to_C 0x85),
  ([0xFD, 0xCB, 0x85, 0x82], .res_0_atIYd_to_D 0x85),
  ([0xFD, 0xCB, 0x85, 0x83], .res_0_atIYd_to_E 0x85),
  ([0xFD, 0xCB, 0x85, 0x84], .res_0_atIYd_to_H 0x85),
  ([0xFD, 0xCB, 0x85, 0x85], .res_0_atIYd_to_L 0x85),
  ([0xFD, 0xCB, 0x85, 0x86], .res_0_atIYd 0x85),
  ([0xFD, 0xCB, 0x85, 0x87], .res_0_atIYd_to_A 0x85),
  ([0xFD, 0xCB, 0x85, 0x88], .res_1_atIYd_to_B 0x85),
  ([0xFD, 0xCB, 0x85, 0x89], .res_1_atIYd_to_C 0x85),
  ([0xFD, 0xCB, 0x85, 0x8A], .res_1_atIYd_to_D 0x85),
  ([0xFD, 0xCB, 0x85, 0x8B], .res_1_atIYd_to_E 0x85),
  ([0xFD, 0xCB, 0x85, 0x8C], .res_1_atIYd_to_H 0x85),
  ([0xFD, 0xCB, 0x85, 0x8D], .res_1_atIYd_to_L 0x85),
  ([0xFD, 0xCB, 0x85, 0x8E], .res_1_atIYd 0x85),
  ([0xFD, 0xCB, 0x85, 0x8F], .res_1_atIYd_to_A 0x85)]
noncomputable def wordsBitOps22 : List (List Byte × Instr) := [
  ([0xFD, 0xCB, 0x85, 0x90], .res_2_atIYd_to_B 0x85),
  ([0xFD, 0xCB, 0x85, 0x91], .res_2_atIYd_to_C 0x85),
  ([0xFD, 0xCB, 0x85, 0x92], .res_2_atIYd_to_D 0x85),
  ([0xFD, 0xCB, 0x85, 0x93], .res_2_atIYd_to_E 0x85),
  ([0xFD, 0xCB, 0x85, 0x94], .res_2_atIYd_to_H 0x85),
  ([0xFD, 0xCB, 0x85, 0x95], .res_2_atIYd_to_L 0x85),
  ([0xFD, 0xCB, 0x85, 0x96], .res_2_atIYd 0x85),
  ([0xFD, 0xCB, 0x85, 0x97], .res_2_atIYd_to_A 0x85),
  ([0xFD, 0xCB, 0x85, 0x98], .res_3_atIYd_to_B 0x85),
  ([0xFD, 0xCB, 0x85, 0x99], .res_3_atIYd_to_C 0x85),
  ([0xFD, 0xCB, 0x85, 0x9A], .res_3_atIYd_to_D 0x85),
  ([0xFD, 0xCB, 0x85, 0x9B], .res_3_atIYd_to_E 0x85),
  ([0xFD, 0xCB, 0x85, 0x9C], .res_3_atIYd_to_H 0x85),
  ([0xFD, 0xCB, 0x85, 0x9D], .res_3_atIYd_to_L 0x85),
  ([0xFD, 0xCB, 0x85, 0x9E], .res_3_atIYd 0x85),
  ([0xFD, 0xCB, 0x85, 0x9F], .res_3_atIYd_to_A 0x85)]
noncomputable def wordsBitOps23 : List (List Byte × Instr) := [
  ([0xFD, 0xCB, 0x85, 0xA0], .res_4_atIYd_to_B 0x85),
  ([0xFD, 0xCB, 0x85, 0xA1], .res_4_atIYd_to_C 0x85),
  ([0xFD, 0xCB, 0x85, 0xA2], .res_4_atIYd_to_D 0x85),
  ([0xFD, 0xCB, 0x85, 0xA3], .res_4_atIYd_to_E 0x85),
  ([0xFD, 0xCB, 0x85, 0xA4], .res_4_atIYd_to_H 0x85),
  ([0xFD, 0xCB, 0x85, 0xA5], .res_4_atIYd_to_L 0x85),
  ([0xFD, 0xCB, 0x85, 0xA6], .res_4_atIYd 0x85),
  ([0xFD, 0xCB, 0x85, 0xA7], .res_4_atIYd_to_A 0x85),
  ([0xFD, 0xCB, 0x85, 0xA8], .res_5_atIYd_to_B 0x85),
  ([0xFD, 0xCB, 0x85, 0xA9], .res_5_atIYd_to_C 0x85),
  ([0xFD, 0xCB, 0x85, 0xAA], .res_5_atIYd_to_D 0x85),
  ([0xFD, 0xCB, 0x85, 0xAB], .res_5_atIYd_to_E 0x85),
  ([0xFD, 0xCB, 0x85, 0xAC], .res_5_atIYd_to_H 0x85),
  ([0xFD, 0xCB, 0x85, 0xAD], .res_5_atIYd_to_L 0x85),
  ([0xFD, 0xCB, 0x85, 0xAE], .res_5_atIYd 0x85),
  ([0xFD, 0xCB, 0x85, 0xAF], .res_5_atIYd_to_A 0x85)]
noncomputable def wordsBitOps24 : List (List Byte × Instr) := [
  ([0xFD, 0xCB, 0x85, 0xB0], .res_6_atIYd_to_B 0x85),
  ([0xFD, 0xCB, 0x85, 0xB1], .res_6_atIYd_to_C 0x85),
  ([0xFD, 0xCB, 0x85, 0xB2], .res_6_atIYd_to_D 0x85),
  ([0xFD, 0xCB, 0x85, 0xB3], .res_6_atIYd_to_E 0x85),
  ([0xFD, 0xCB, 0x85, 0xB4], .res_6_atIYd_to_H 0x85),
  ([0xFD, 0xCB, 0x85, 0xB5], .res_6_atIYd_to_L 0x85),
  ([0xFD, 0xCB, 0x85, 0xB6], .res_6_atIYd 0x85),
  ([0xFD, 0xCB, 0x85, 0xB7], .res_6_atIYd_to_A 0x85),
  ([0xFD, 0xCB, 0x85, 0xB8], .res_7_atIYd_to_B 0x85),
  ([0xFD, 0xCB, 0x85, 0xB9], .res_7_atIYd_to_C 0x85),
  ([0xFD, 0xCB, 0x85, 0xBA], .res_7_atIYd_to_D 0x85),
  ([0xFD, 0xCB, 0x85, 0xBB], .res_7_atIYd_to_E 0x85),
  ([0xFD, 0xCB, 0x85, 0xBC], .res_7_atIYd_to_H 0x85),
  ([0xFD, 0xCB, 0x85, 0xBD], .res_7_atIYd_to_L 0x85),
  ([0xFD, 0xCB, 0x85, 0xBE], .res_7_atIYd 0x85),
  ([0xFD, 0xCB, 0x85, 0xBF], .res_7_atIYd_to_A 0x85)]
noncomputable def wordsBitOps25 : List (List Byte × Instr) := [
  ([0xFD, 0xCB, 0x85, 0xC0], .set_0_atIYd_to_B 0x85),
  ([0xFD, 0xCB, 0x85, 0xC1], .set_0_atIYd_to_C 0x85),
  ([0xFD, 0xCB, 0x85, 0xC2], .set_0_atIYd_to_D 0x85),
  ([0xFD, 0xCB, 0x85, 0xC3], .set_0_atIYd_to_E 0x85),
  ([0xFD, 0xCB, 0x85, 0xC4], .set_0_atIYd_to_H 0x85),
  ([0xFD, 0xCB, 0x85, 0xC5], .set_0_atIYd_to_L 0x85),
  ([0xFD, 0xCB, 0x85, 0xC6], .set_0_atIYd 0x85),
  ([0xFD, 0xCB, 0x85, 0xC7], .set_0_atIYd_to_A 0x85),
  ([0xFD, 0xCB, 0x85, 0xC8], .set_1_atIYd_to_B 0x85),
  ([0xFD, 0xCB, 0x85, 0xC9], .set_1_atIYd_to_C 0x85),
  ([0xFD, 0xCB, 0x85, 0xCA], .set_1_atIYd_to_D 0x85),
  ([0xFD, 0xCB, 0x85, 0xCB], .set_1_atIYd_to_E 0x85),
  ([0xFD, 0xCB, 0x85, 0xCC], .set_1_atIYd_to_H 0x85),
  ([0xFD, 0xCB, 0x85, 0xCD], .set_1_atIYd_to_L 0x85),
  ([0xFD, 0xCB, 0x85, 0xCE], .set_1_atIYd 0x85),
  ([0xFD, 0xCB, 0x85, 0xCF], .set_1_atIYd_to_A 0x85)]
noncomputable def wordsBitOps26 : List (List Byte × Instr) := [
  ([0xFD, 0xCB, 0x85, 0xD0], .set_2_atIYd_to_B 0x85),
  ([0xFD, 0xCB, 0x85, 0xD1], .set_2_atIYd_to_C 0x85),
  ([0xFD, 0xCB, 0x85, 0xD2], .set_2_atIYd_to_D 0x85),
  ([0xFD, 0xCB, 0x85, 0xD3], .set_2_atIYd_to_E 0x85),
  ([0xFD, 0xCB, 0x85, 0xD4], .set_2_atIYd_to_H 0x85),
  ([0xFD, 0xCB, 0x85, 0xD5], .set_2_atIYd_to_L 0x85),
  ([0xFD, 0xCB, 0x85, 0xD6], .set_2_atIYd 0x85),
  ([0xFD, 0xCB, 0x85, 0xD7], .set_2_atIYd_to_A 0x85),
  ([0xFD, 0xCB, 0x85, 0xD8], .set_3_atIYd_to_B 0x85),
  ([0xFD, 0xCB, 0x85, 0xD9], .set_3_atIYd_to_C 0x85),
  ([0xFD, 0xCB, 0x85, 0xDA], .set_3_atIYd_to_D 0x85),
  ([0xFD, 0xCB, 0x85, 0xDB], .set_3_atIYd_to_E 0x85),
  ([0xFD, 0xCB, 0x85, 0xDC], .set_3_atIYd_to_H 0x85),
  ([0xFD, 0xCB, 0x85, 0xDD], .set_3_atIYd_to_L 0x85),
  ([0xFD, 0xCB, 0x85, 0xDE], .set_3_atIYd 0x85),
  ([0xFD, 0xCB, 0x85, 0xDF], .set_3_atIYd_to_A 0x85)]
noncomputable def wordsBitOps27 : List (List Byte × Instr) := [
  ([0xFD, 0xCB, 0x85, 0xE0], .set_4_atIYd_to_B 0x85),
  ([0xFD, 0xCB, 0x85, 0xE1], .set_4_atIYd_to_C 0x85),
  ([0xFD, 0xCB, 0x85, 0xE2], .set_4_atIYd_to_D 0x85),
  ([0xFD, 0xCB, 0x85, 0xE3], .set_4_atIYd_to_E 0x85),
  ([0xFD, 0xCB, 0x85, 0xE4], .set_4_atIYd_to_H 0x85),
  ([0xFD, 0xCB, 0x85, 0xE5], .set_4_atIYd_to_L 0x85),
  ([0xFD, 0xCB, 0x85, 0xE6], .set_4_atIYd 0x85),
  ([0xFD, 0xCB, 0x85, 0xE7], .set_4_atIYd_to_A 0x85),
  ([0xFD, 0xCB, 0x85, 0xE8], .set_5_atIYd_to_B 0x85),
  ([0xFD, 0xCB, 0x85, 0xE9], .set_5_atIYd_to_C 0x85),
  ([0xFD, 0xCB, 0x85, 0xEA], .set_5_atIYd_to_D 0x85),
  ([0xFD, 0xCB, 0x85, 0xEB], .set_5_atIYd_to_E 0x85),
  ([0xFD, 0xCB, 0x85, 0xEC], .set_5_atIYd_to_H 0x85),
  ([0xFD, 0xCB, 0x85, 0xED], .set_5_atIYd_to_L 0x85),
  ([0xFD, 0xCB, 0x85, 0xEE], .set_5_atIYd 0x85),
  ([0xFD, 0xCB, 0x85, 0xEF], .set_5_atIYd_to_A 0x85)]
noncomputable def wordsBitOps28 : List (List Byte × Instr) := [
  ([0xFD, 0xCB, 0x85, 0xF0], .set_6_atIYd_to_B 0x85),
  ([0xFD, 0xCB, 0x85, 0xF1], .set_6_atIYd_to_C 0x85),
  ([0xFD, 0xCB, 0x85, 0xF2], .set_6_atIYd_to_D 0x85),
  ([0xFD, 0xCB, 0x85, 0xF3], .set_6_atIYd_to_E 0x85),
  ([0xFD, 0xCB, 0x85, 0xF4], .set_6_atIYd_to_H 0x85),
  ([0xFD, 0xCB, 0x85, 0xF5], .set_6_atIYd_to_L 0x85),
  ([0xFD, 0xCB, 0x85, 0xF6], .set_6_atIYd 0x85),
  ([0xFD, 0xCB, 0x85, 0xF7], .set_6_atIYd_to_A 0x85),
  ([0xFD, 0xCB, 0x85, 0xF8], .set_7_atIYd_to_B 0x85),
  ([0xFD, 0xCB, 0x85, 0xF9], .set_7_atIYd_to_C 0x85),
  ([0xFD, 0xCB, 0x85, 0xFA], .set_7_atIYd_to_D 0x85),
  ([0xFD, 0xCB, 0x85, 0xFB], .set_7_atIYd_to_E 0x85),
  ([0xFD, 0xCB, 0x85, 0xFC], .set_7_atIYd_to_H 0x85),
  ([0xFD, 0xCB, 0x85, 0xFD], .set_7_atIYd_to_L 0x85),
  ([0xFD, 0xCB, 0x85, 0xFE], .set_7_atIYd 0x85),
  ([0xFD, 0xCB, 0x85, 0xFF], .set_7_atIYd_to_A 0x85)]

/-- BIT, SET and RES: the words of opcode_table.json decode to their instructions, which encode to them. -/
theorem test_decode_bitops_0 : agree (wordsBitOps0 ++ wordsBitOps1 ++ wordsBitOps2 ++ wordsBitOps3) = true := by decide
/-- BIT, SET and RES: the words of opcode_table.json decode to their instructions, which encode to them. -/
theorem test_decode_bitops_1 : agree (wordsBitOps4 ++ wordsBitOps5 ++ wordsBitOps6 ++ wordsBitOps7) = true := by decide
/-- BIT, SET and RES: the words of opcode_table.json decode to their instructions, which encode to them. -/
theorem test_decode_bitops_2 : agree (wordsBitOps8 ++ wordsBitOps9 ++ wordsBitOps10 ++ wordsBitOps11) = true := by decide
/-- BIT, SET and RES: the words of opcode_table.json decode to their instructions, which encode to them. -/
theorem test_decode_bitops_3 : agree (wordsBitOps12 ++ wordsBitOps13 ++ wordsBitOps14 ++ wordsBitOps15) = true := by decide
/-- BIT, SET and RES: the words of opcode_table.json decode to their instructions, which encode to them. -/
theorem test_decode_bitops_4 : agree (wordsBitOps16 ++ wordsBitOps17 ++ wordsBitOps18 ++ wordsBitOps19) = true := by decide
/-- BIT, SET and RES: the words of opcode_table.json decode to their instructions, which encode to them. -/
theorem test_decode_bitops_5 : agree (wordsBitOps20 ++ wordsBitOps21 ++ wordsBitOps22 ++ wordsBitOps23) = true := by decide
/-- BIT, SET and RES: the words of opcode_table.json decode to their instructions, which encode to them. -/
theorem test_decode_bitops_6 : agree (wordsBitOps24 ++ wordsBitOps25 ++ wordsBitOps26 ++ wordsBitOps27) = true := by decide
/-- BIT, SET and RES: the words of opcode_table.json decode to their instructions, which encode to them. -/
theorem test_decode_bitops_7 : agree (wordsBitOps28) = true := by decide

noncomputable def wordsBlock0 : List (List Byte × Instr) := [
  ([0xED, 0xA0], .ldi),
  ([0xED, 0xA1], .cpi),
  ([0xED, 0xA2], .ini),
  ([0xED, 0xA3], .outi),
  ([0xED, 0xA8], .ldd),
  ([0xED, 0xA9], .cpd),
  ([0xED, 0xAA], .ind),
  ([0xED, 0xAB], .outd),
  ([0xED, 0xB0], .ldir),
  ([0xED, 0xB1], .cpir),
  ([0xED, 0xB2], .inir),
  ([0xED, 0xB3], .otir),
  ([0xED, 0xB8], .lddr),
  ([0xED, 0xB9], .cpdr),
  ([0xED, 0xBA], .indr),
  ([0xED, 0xBB], .otdr)]

/-- Block instructions: the words of opcode_table.json decode to their instructions, which encode to them. -/
theorem test_decode_block : agree (wordsBlock0) = true := by decide

/-- Undefined opcodes (rows INVALID) decode to `invalid`. -/
theorem test_decode_invalid : agree [([0xED, 0x00], .invalid .ED 0x00), ([0xED, 0x4C], .invalid .ED 0x4C), ([0xED, 0xFF], .invalid .ED 0xFF),
    ([0xDD, 0x00], .invalid .DD 0x00), ([0xDD, 0xED], .invalid .DD 0xED), ([0xFD, 0xEB], .invalid .FD 0xEB)] = true := by decide

/-- An instruction cut short decodes to none. -/
theorem test_decode_truncated : (decode [], decode [0xDD, 0xCB, 0x01]) = (.error .truncated, .error .truncated) := by decide

/-- The table's numbering: byte 0 is the most significant byte of `match`. -/
theorem test_table_word : decodeTableWord 24 0x010000 = some (.ld_BC_nn 0) ∧ decodeTableWord 32 0xDDCB1046 = some (.bit_0_atIXd 0x10 6) := by
  decide

/-! ## Helpers -/

/-- Cold reset with every page RAM, as the vectors assume, and an instruction's bytes at an address where PC stands. -/
def at_ (pc : Word) (bytes : List Byte) : State :=
  ({ State.reset with pages := Vector.replicate 64 PageAttr.ram, pc := pc }).placeBytes pc bytes

/-- Bytes stored in memory. -/
def poked (s : State) (l : List (Word × Byte)) : State := l.foldl (fun t p => t.poke p.1 p.2) s

/-- A page's attributes replaced. -/
def paged (s : State) (p : Fin 64) (a : PageAttr) : State := { s with pages := s.pages.set p a }

/-- Does one step answer a next state of which `p` holds? -/
def nextHas (s : State) (p : State → Bool) : Bool :=
  match step s with
  | .next t => p t
  | _ => false

/-- Does one step end with this fault? -/
def faultIs (s : State) (f : Fault) : Bool :=
  match step s with
  | .fault g => g == f
  | _ => false

/-! ## Primitives: 95_test_vectors.md section 2 -/

theorem test_add8 : [add8 0x7F 0x01 false, add8 0xFF 0x01 false, add8 0x0F 0x00 true, add8 0x80 0x80 false, add8 0xFF 0xFF true]
    = [(0x80, 0x94), (0x00, 0x51), (0x10, 0x10), (0x00, 0x45), (0xFF, 0xB9)] := by decide
theorem test_sub8 : [sub8 0x80 0x80 false, sub8 0x00 0x01 false, sub8 0x7F 0xFF false, sub8 0x10 0x0F true, sub8 0x00 0x00 true]
    = [(0x00, 0x42), (0xFF, 0xBB), (0x80, 0x87), (0x00, 0x52), (0xFF, 0xBB)] := by decide
theorem test_logic8 : [and8 0xF0 0x0F, or8 0xF0 0x0F, xor8 0xFF 0x80] = [(0x00, 0x54), (0xFF, 0xAC), (0x7F, 0x28)] := by decide
theorem test_cp8 : [cp8 0x10 0x28, cp8 0x05 0x05, cp8 0x00 0xFF] = [0xBB, 0x42, 0x3B] := by decide
theorem test_inc_dec8 : [inc8 0x7F 0x00, inc8 0x00 0xFF, dec8 0x80 0x00, dec8 0x10 0x00]
    = [(0x80, 0x94), (0x01, 0x01), (0x7F, 0x3E), (0x0F, 0x1A)] := by decide
theorem test_add16 : [add16 0xFFFF 0x0001 0x00, add16 0x0FFF 0x0001 0xC4, adc16 0x8000 0x8000 false, sbc16 0x8000 0x0001 false]
    = [(0x0000, 0x11), (0x1000, 0xD4), (0x0000, 0x45), (0x7FFF, 0x3E)] := by decide
theorem test_daa8 : [daa8 0x3C 0x00, daa8 0x9A 0x00, daa8 0x0F 0x1A, daa8 0x00 0x01, daa8 0x66 0x13]
    = [(0x42, 0x14), (0x00, 0x55), (0x09, 0x0E), (0x60, 0x25), (0x00, 0x47)] := by decide

/-! ## Conditions -/

/-- V60.3: the NEG mirror ED 4C is undefined. -/
theorem test_invalid_ed : faultIs (at_ 0x1000 [0xED, 0x4C]) (.invalidInstruction 0x1000 0xED 0x4C) = true := by decide
/-- V60.5: a prefix after a prefix. -/
theorem test_invalid_dd_dd : faultIs (at_ 0x1000 [0xDD, 0xDD, 0x21]) (.invalidInstruction 0x1000 0xDD 0xDD) = true := by decide
/-- V60.7: a write to a read-only page. -/
theorem test_write_to_rom : faultIs { paged (at_ 0x1000 [0x77]) 0 PageAttr.rom with regs := { RegFile.zero with h := 0x01 } }
    (.badAccess 0x1000 0x0100 .write) = true := by decide
/-- V60.9: the operand's fetch meets an unmapped page. -/
theorem test_fetch_fault : faultIs (paged (at_ 0x0FFF [0x3E]) 4 PageAttr.unmapped) (.badAccess 0x0FFF 0x1000 .read) = true := by decide
/-- V60.10: PUSH writes SP - 1 first. -/
theorem test_push_fault : faultIs { paged (at_ 0x2000 [0xC5]) 4 PageAttr.rom with sp := 0x1400 } (.badAccess 0x2000 0x13FF .write) = true := by
  decide
/-- V60.11: the second byte of a word in an unmapped page. -/
theorem test_word_fault : faultIs (paged (at_ 0x1000 [0x2A, 0xFF, 0xEF]) 60 PageAttr.unmapped) (.badAccess 0x1000 0xF000 .read) = true := by
  decide

/-! ## Placing an instruction, the wrapper, the host, the bus, devices, the disassembler -/

/-- LD A,41 (3E 41) as the first instruction after reset. -/
theorem test_fetch_word : nextHas (State.reset.withFetchWord 16 0x3E41) (fun t => t.regs.a == 0x41 && t.pc == 0x0002) = true := by decide
/-- With no operand bits a row's operands are zero: LD BC,nn (01). -/
theorem test_fetch_word_short : nextHas (State.reset.withFetchWord 8 0x01) (fun t => t.pc == 0x0003) = true := by decide

/-- After an `Ok` at a breakpoint's address the wrapper answers `Breakpoint` (R454). -/
theorem test_breakpoint : (match debugStep ((at_ 0x1000 [0x00]).setBreakpoint 0x1001 (some 7)) with
    | .next t => t.result == .breakpoint 0x1001 (some 7) && t.cycles == 4
    | _ => false) = true := by decide
/-- HALT at a breakpoint's address stays `Halt` (R454). -/
theorem test_breakpoint_halt : (match debugStep ((at_ 0x1000 [0x76]).setBreakpoint 0x1000 none) with
    | .next t => t.result == .halt 0x1000
    | _ => false) = true := by decide
/-- The debug flag follows the map (R44, R468). -/
theorem test_debug_flag : (let s := (State.reset.setBreakpoint 5 none).setBreakpoint 3 none
    (s.listBreakpoints, s.debugFlag, (s.deleteBreakpoint 5).debugFlag, ((s.deleteBreakpoint 5).deleteBreakpoint 3).debugFlag))
    = ([3, 5], true, true, false) := by decide

/-- `load` bypasses the attributes: page 0 of the default map is ROM (R85, R86). -/
theorem test_load_rom : ((State.reset.load 0x0000 [0x31, 0x00, 0xF0]).bind (fun t => t.dump 0 3)) = some [0x31, 0x00, 0xF0] := by decide
/-- `load` that runs off the end fails (R85). -/
theorem test_load_end : State.reset.load 0xFFFF [0x01, 0x02] = none := by decide

/-- A region's size must be a multiple of 1 KiB (R84). -/
theorem test_bus_size : buildBus [⟨0, 1000, PageAttr.ram, []⟩] [] = .error .misalignedSize := by decide
/-- Overlap is accepted, the last declaration giving the attributes (R84). -/
theorem test_bus_overlap : (match buildBus [⟨0, 2048, PageAttr.ram, [0x76]⟩, ⟨1024, 1024, PageAttr.rom, []⟩] [] with
    | .ok b => b.pages[0] == PageAttr.ram && b.pages[1] == PageAttr.rom && b.pages[2] == PageAttr.unmapped && b.mem == [(0, 0x76)]
    | .error _ => false) = true := by decide

/-- Scenario S2's dummy device: after `OUT (01),A` its latch holds A. -/
theorem test_latch : nextHas { at_ 0x1000 [0xD3, 0x01] with
    regs := { RegFile.zero with a := 0x41 }, slots := [⟨1, 0, 1⟩], devices := [⟨.latch 0x00, false⟩] }
    (fun t => t.devices == [⟨.latch 0x41, false⟩]) = true := by decide
/-- The console's data port: the buffered byte, which the read takes out (R464). -/
theorem test_console_data : nextHas { at_ 0x1000 [0xDB, 0x10] with
    slots := [⟨0x10, 0, 0x10⟩, ⟨0x11, 0, 0x10⟩], devices := [⟨.console ⟨some 0x61, none, true, true, []⟩, false⟩] }
    (fun t => t.regs.a == 0x61 && t.devices == [⟨.console ⟨none, none, true, true, []⟩, false⟩]) = true := by decide
/-- The console's data port with an empty buffer and no arrival: 0xFF (R464). -/
theorem test_console_empty : nextHas { at_ 0x1000 [0xDB, 0x10] with
    ioIn := [0xFD, 0x61], slots := [⟨0x10, 0, 0x10⟩], devices := [⟨.console ⟨none, none, true, true, []⟩, false⟩] }
    (fun t => t.regs.a == 0xFF && t.ioIn == [0x61]) = true := by decide
/-- The console's data port with an empty buffer where a byte arrives (R464, U12). -/
theorem test_console_data_arrives : nextHas { at_ 0x1000 [0xDB, 0x10] with
    ioIn := [0x02, 0x61], slots := [⟨0x10, 0, 0x10⟩], devices := [⟨.console ⟨none, none, true, true, []⟩, false⟩] }
    (fun t => t.regs.a == 0x61 && t.devices == [⟨.console ⟨none, none, true, true, []⟩, false⟩]) = true := by decide
/-- The console's status port where a byte arrives: RXRDY is set and the byte stays buffered (R464, U11, U12). -/
theorem test_console_status_arrives : nextHas { at_ 0x1000 [0xDB, 0x11] with
    ioIn := [0x02, 0x61, 0xA0], slots := [⟨0x11, 0, 0x10⟩], devices := [⟨.console ⟨none, none, true, true, []⟩, false⟩] }
    (fun t => t.regs.a == 0xA3 && t.devices == [⟨.console ⟨some 0x61, none, true, true, []⟩, false⟩]) = true := by decide
/-- The console's data port emits a written byte under TXEN (R464). -/
theorem test_console_emits : nextHas { at_ 0x1000 [0xD3, 0x10] with
    regs := { RegFile.zero with a := 0x41 }, slots := [⟨0x10, 0, 0x10⟩], devices := [⟨.console ⟨none, none, true, true, [0x40]⟩, false⟩] }
    (fun t => t.devices == [⟨.console ⟨none, none, true, true, [0x40, 0x41]⟩, false⟩]) = true := by decide

/-- R129: a relative target is the resolved address. -/
theorem test_disasm_jr : (at_ 0x1000 [0x20, 0xFE]).disassemble 0x1000 = some ⟨"JR", "NZ", "$1000", "20FE", 2, none⟩ := by decide
/-- R128: the copy's notation. -/
theorem test_disasm_copy : (at_ 0x1000 [0xDD, 0xCB, 0x01, 0xC0]).disassemble 0x1000
    = some ⟨"SET", "0", "(IX+$01) -> B", "DDCB01C0", 4, none⟩ := by decide
/-- R129: the 8080 spelling. -/
theorem test_disasm_8080 : ({ at_ 0x1000 [0x46] with mode := .i8080 }).disassemble 0x1000 = some ⟨"MOV", "B", "M", "46", 1, none⟩ := by decide
/-- R133: an undefined opcode is two bytes long. -/
theorem test_disasm_invalid : (at_ 0x1000 [0xED, 0x00]).disassemble 0x1000
    = some ⟨"INVALID", "", "", "ED00", 2, some "InvalidInstruction"⟩ := by decide

/-! ## One step: 95_test_vectors.md section 3 -/

/-- V41.1: LD B,C. -/
theorem test_ld_b_c : nextHas { at_ 0x1000 [0x41] with regs := { RegFile.zero with c := 0x5A } }
    (fun t => t.regs.b == 0x5A && t.pc == 0x1001 && t.cycles == 4) = true := by decide
/-- V41.2: LD A,(HL). -/
theorem test_ld_a_hl : nextHas { poked (at_ 0x1000 [0x7E]) [(0x2000, 0x99)] with regs := { RegFile.zero with h := 0x20 } }
    (fun t => t.regs.a == 0x99 && t.pc == 0x1001 && t.cycles == 7) = true := by decide
/-- V41.3: LD (HL),n. -/
theorem test_ld_hl_n : nextHas { at_ 0x1000 [0x36, 0xA5] with regs := { RegFile.zero with h := 0x20 } }
    (fun t => t.pc == 0x1002 && t.peek 0x2000 == 0xA5 && t.cycles == 10) = true := by decide
/-- V41.4: LD A,(IX-1). -/
theorem test_ld_a_ix_1 : nextHas { poked (at_ 0x1000 [0xDD, 0x7E, 0xFF]) [(0x2000, 0x77)] with ix := 0x2001 }
    (fun t => t.regs.a == 0x77 && t.pc == 0x1003 && t.wz == 0x2000 && t.cycles == 19) = true := by decide
/-- V41.5: LD (IY+127),n. -/
theorem test_ld_iy_127_n : nextHas { at_ 0x1000 [0xFD, 0x36, 0x7F, 0x11] with iy := 0x2000 }
    (fun t => t.pc == 0x1004 && t.wz == 0x207F && t.peek 0x207F == 0x11 && t.cycles == 19) = true := by decide
/-- V41.6: LD H,(IX+0) (real H). -/
theorem test_ld_h_ix_0_real_h : nextHas { poked (at_ 0x1000 [0xDD, 0x66, 0x00]) [(0x3000, 0x42)] with ix := 0x3000 }
    (fun t => t.regs.h == 0x42 && t.pc == 0x1003 && t.wz == 0x3000 && t.cycles == 19) = true := by decide
/-- V41.7: LD IXH,B. -/
theorem test_ld_ixh_b : nextHas { at_ 0x1000 [0xDD, 0x60] with regs := { RegFile.zero with b := 0x12 }, ix := 0x3456 }
    (fun t => t.ix == 0x1256 && t.pc == 0x1002 && t.cycles == 8) = true := by decide
/-- V41.8: LD A,(nn). -/
theorem test_ld_a_nn : nextHas (poked (at_ 0x1000 [0x3A, 0x00, 0x20]) [(0x2000, 0x5C)])
    (fun t => t.regs.a == 0x5C && t.pc == 0x1003 && t.wz == 0x2001 && t.cycles == 13) = true := by decide
/-- V41.9: LD (nn),A at 0x20FF. -/
theorem test_ld_nn_a_at_0x20ff : nextHas { at_ 0x1000 [0x32, 0xFF, 0x20] with regs := { RegFile.zero with a := 0x33 } }
    (fun t => t.pc == 0x1003 && t.wz == 0x3300 && t.peek 0x20FF == 0x33 && t.cycles == 13) = true := by decide
/-- V41.10: LD (BC),A. -/
theorem test_ld_bc_a : nextHas { at_ 0x1000 [0x02] with regs := { RegFile.zero with a := 0x44, b := 0x20, c := 0xFF } }
    (fun t => t.pc == 0x1001 && t.wz == 0x4400 && t.peek 0x20FF == 0x44 && t.cycles == 7) = true := by decide
/-- V41.12: LD A,I with IFF2=0. -/
theorem test_ld_a_i_with_iff2_0 : nextHas { at_ 0x1000 [0xED, 0x57] with regs := { RegFile.zero with f := 0x01 } }
    (fun t => t.regs.f == 0x41 && t.pc == 0x1002 && t.cycles == 9) = true := by decide
/-- V42.1: LD HL,nn. -/
theorem test_ld_hl_nn : nextHas (at_ 0x1000 [0x21, 0x34, 0x12])
    (fun t => t.regs.h == 0x12 && t.regs.l == 0x34 && t.pc == 0x1003 && t.cycles == 10) = true := by decide
/-- V42.2: LD (nn),HL (little-endian). -/
theorem test_ld_nn_hl_little_endian : nextHas { at_ 0x1000 [0x22, 0x00, 0x20] with regs := { RegFile.zero with h := 0xAB, l := 0xCD } }
    (fun t => t.pc == 0x1003 && t.wz == 0x2001 && t.peek 0x2000 == 0xCD && t.peek 0x2001 == 0xAB && t.cycles == 16) = true := by decide
/-- V42.3: LD BC,(nn) (ED form). -/
theorem test_ld_bc_nn_ed_form : nextHas (poked (at_ 0x1000 [0xED, 0x4B, 0x00, 0x20]) [(0x2000, 0x78), (0x2001, 0x56)])
    (fun t => t.regs.b == 0x56 && t.regs.c == 0x78 && t.pc == 0x1004 && t.wz == 0x2001 && t.cycles == 20) = true := by decide
/-- V42.4: LD (nn),SP at 0xFFFF (wraps). -/
theorem test_ld_nn_sp_at_0xffff_wraps : nextHas { at_ 0x1000 [0xED, 0x73, 0xFF, 0xFF] with sp := 0x1234 }
    (fun t => t.pc == 0x1004 && t.peek 0x0000 == 0x12 && t.peek 0xFFFF == 0x34 && t.cycles == 20) = true := by decide
/-- V42.5: PUSH AF. -/
theorem test_push_af : nextHas { at_ 0x1000 [0xF5] with regs := { RegFile.zero with a := 0x12, f := 0xD7 }, sp := 0x2000 }
    (fun t => t.sp == 0x1FFE && t.pc == 0x1001 && t.peek 0x1FFE == 0xD7 && t.peek 0x1FFF == 0x12 && t.cycles == 11) = true := by decide
/-- V42.6: POP AF. -/
theorem test_pop_af : nextHas { poked (at_ 0x1000 [0xF1]) [(0x1FFE, 0xFF), (0x1FFF, 0x00)] with sp := 0x1FFE }
    (fun t => t.regs.f == 0xFF && t.sp == 0x2000 && t.pc == 0x1001 && t.cycles == 10) = true := by decide
/-- V42.7: PUSH BC at SP=0x0000 (wraps). -/
theorem test_push_bc_at_sp_0x0000_wraps : nextHas { at_ 0x1000 [0xC5] with regs := { RegFile.zero with b := 0xBE, c := 0xEF } }
    (fun t => t.sp == 0xFFFE && t.pc == 0x1001 && t.peek 0xFFFE == 0xEF && t.peek 0xFFFF == 0xBE && t.cycles == 11) = true := by decide
/-- V42.8: EX DE,HL. -/
theorem test_ex_de_hl : nextHas { at_ 0x1000 [0xEB] with regs := { RegFile.zero with d := 0x11, e := 0x11, h := 0x22, l := 0x22 } }
    (fun t => t.regs.d == 0x22 && t.regs.e == 0x22 && t.regs.h == 0x11 && t.regs.l == 0x11 && t.pc == 0x1001 && t.cycles == 4) = true := by decide
/-- V42.9: EX AF,AF'. -/
theorem test_ex_af_af : nextHas { at_ 0x1000 [0x08] with regs := { RegFile.zero with a := 0x01, f := 0x02 }, afAlt := 0x0304 }
    (fun t => t.regs.a == 0x03 && t.regs.f == 0x04 && t.pc == 0x1001 && t.afAlt == 0x0102 && t.cycles == 4) = true := by decide
/-- V42.10: EXX. -/
theorem test_exx : nextHas { at_ 0x1000 [0xD9] with regs := { RegFile.zero with b := 0x01, c := 0x02, d := 0x03, e := 0x04, h := 0x05, l := 0x06 }, bcAlt := 0xA1A2, deAlt := 0xA3A4, hlAlt := 0xA5A6 }
    (fun t => t.regs.b == 0xA1 && t.regs.c == 0xA2 && t.regs.d == 0xA3 && t.regs.e == 0xA4 && t.regs.h == 0xA5 && t.regs.l == 0xA6 && t.pc == 0x1001 && t.bcAlt == 0x0102 && t.deAlt == 0x0304 && t.hlAlt == 0x0506 && t.cycles == 4) = true := by decide
/-- V42.11: EX (SP),IX. -/
theorem test_ex_sp_ix : nextHas { poked (at_ 0x1000 [0xDD, 0xE3]) [(0x2000, 0xCD), (0x2001, 0xAB)] with ix := 0x1234, sp := 0x2000 }
    (fun t => t.ix == 0xABCD && t.pc == 0x1002 && t.wz == 0xABCD && t.peek 0x2000 == 0x34 && t.peek 0x2001 == 0x12 && t.cycles == 23) = true := by decide
/-- V42.12: LD SP,HL. -/
theorem test_ld_sp_hl : nextHas { at_ 0x1000 [0xF9] with regs := { RegFile.zero with h := 0x80 } }
    (fun t => t.sp == 0x8000 && t.pc == 0x1001 && t.cycles == 6) = true := by decide
/-- V43.1: ADD A,B 7F+01 (toyz80 §8). -/
theorem test_add_a_b_7f_01 : nextHas { at_ 0x1000 [0x80] with regs := { RegFile.zero with a := 0x7F, b := 0x01 } }
    (fun t => t.regs.a == 0x80 && t.regs.f == 0x94 && t.pc == 0x1001 && t.cycles == 4) = true := by decide
/-- V43.3: ADC A,n FF+FF+1. -/
theorem test_adc_a_n_ff_ff_1 : nextHas { at_ 0x1000 [0xCE, 0xFF] with regs := { RegFile.zero with a := 0xFF, f := 0x01 } }
    (fun t => t.regs.f == 0xB9 && t.pc == 0x1002 && t.cycles == 7) = true := by decide
/-- V43.5: SUB B 80-80 (toyz80 §8 scenario 5, C2). -/
theorem test_sub_b_80_80 : nextHas { at_ 0x1000 [0x90] with regs := { RegFile.zero with a := 0x80, b := 0x80 } }
    (fun t => t.regs.a == 0x00 && t.regs.f == 0x42 && t.pc == 0x1001 && t.cycles == 4) = true := by decide
/-- V43.8: SBC A,n 00-00-1. -/
theorem test_sbc_a_n_00_00_1 : nextHas { at_ 0x1000 [0xDE, 0x00] with regs := { RegFile.zero with f := 0x01 } }
    (fun t => t.regs.a == 0xFF && t.regs.f == 0xBB && t.pc == 0x1002 && t.cycles == 7) = true := by decide
/-- V43.10: AND n. -/
theorem test_and_n : nextHas { at_ 0x1000 [0xE6, 0x0F] with regs := { RegFile.zero with a := 0xF0 } }
    (fun t => t.regs.a == 0x00 && t.regs.f == 0x54 && t.pc == 0x1002 && t.cycles == 7) = true := by decide
/-- V43.11: XOR A. -/
theorem test_xor_a : nextHas { at_ 0x1000 [0xAF] with regs := { RegFile.zero with a := 0x5A, f := 0xFF } }
    (fun t => t.regs.a == 0x00 && t.regs.f == 0x44 && t.pc == 0x1001 && t.cycles == 4) = true := by decide
/-- V43.12: OR n. -/
theorem test_or_n : nextHas (at_ 0x1000 [0xF6, 0x28])
    (fun t => t.regs.a == 0x28 && t.regs.f == 0x2C && t.pc == 0x1002 && t.cycles == 7) = true := by decide
/-- V43.13: CP n (X/Y from operand). -/
theorem test_cp_n_x_y_from_operand : nextHas { at_ 0x1000 [0xFE, 0x28] with regs := { RegFile.zero with a := 0x10 } }
    (fun t => t.regs.f == 0xBB && t.pc == 0x1002 && t.cycles == 7) = true := by decide
/-- V43.15: ADD A,(IX+d). -/
theorem test_add_a_ix_d : nextHas { poked (at_ 0x1000 [0xDD, 0x86, 0x05]) [(0x2005, 0x01)] with regs := { RegFile.zero with a := 0x01 }, ix := 0x2000 }
    (fun t => t.regs.a == 0x02 && t.pc == 0x1003 && t.wz == 0x2005 && t.cycles == 19) = true := by decide
/-- V43.16: ADD A,IXL. -/
theorem test_add_a_ixl : nextHas { at_ 0x1000 [0xDD, 0x85] with regs := { RegFile.zero with a := 0x10 }, ix := 0x0020 }
    (fun t => t.regs.a == 0x30 && t.regs.f == 0x20 && t.pc == 0x1002 && t.cycles == 8) = true := by decide
/-- V43.18: INC A on FF (toyz80 §8), C kept. -/
theorem test_inc_a_on_ff_c_kept : nextHas { at_ 0x1000 [0x3C] with regs := { RegFile.zero with a := 0xFF, f := 0x01 } }
    (fun t => t.regs.a == 0x00 && t.regs.f == 0x51 && t.pc == 0x1001 && t.cycles == 4) = true := by decide
/-- V43.20: DEC A on 00 (toyz80 §8). -/
theorem test_dec_a_on_00 : nextHas (at_ 0x1000 [0x3D])
    (fun t => t.regs.a == 0xFF && t.regs.f == 0xBA && t.pc == 0x1001 && t.cycles == 4) = true := by decide
/-- V43.21: INC (HL). -/
theorem test_inc_hl : nextHas { poked (at_ 0x1000 [0x34]) [(0x2000, 0x0F)] with regs := { RegFile.zero with h := 0x20 } }
    (fun t => t.regs.f == 0x10 && t.pc == 0x1001 && t.peek 0x2000 == 0x10 && t.cycles == 11) = true := by decide
/-- V43.22: DEC (IY+d). -/
theorem test_dec_iy_d : nextHas { poked (at_ 0x1000 [0xFD, 0x35, 0xFE]) [(0x2000, 0x01)] with iy := 0x2002 }
    (fun t => t.regs.f == 0x42 && t.pc == 0x1003 && t.wz == 0x2000 && t.peek 0x2000 == 0x00 && t.cycles == 23) = true := by decide
/-- V43.26: DAA on 9A, flags 0. -/
theorem test_daa_on_9a_flags_0 : nextHas { at_ 0x1000 [0x27] with regs := { RegFile.zero with a := 0x9A } }
    (fun t => t.regs.a == 0x00 && t.regs.f == 0x55 && t.pc == 0x1001 && t.cycles == 4) = true := by decide
/-- V43.27: CPL. -/
theorem test_cpl : nextHas (at_ 0x1000 [0x2F])
    (fun t => t.regs.a == 0xFF && t.regs.f == 0x3A && t.pc == 0x1001 && t.cycles == 4) = true := by decide
/-- V43.29: NEG 80. -/
theorem test_neg_80 : nextHas { at_ 0x1000 [0xED, 0x44] with regs := { RegFile.zero with a := 0x80 } }
    (fun t => t.regs.f == 0x87 && t.pc == 0x1002 && t.cycles == 8) = true := by decide
/-- V43.31: SCF. -/
theorem test_scf : nextHas { at_ 0x1000 [0x37] with regs := { RegFile.zero with a := 0xFF } }
    (fun t => t.regs.f == 0x29 && t.pc == 0x1001 && t.cycles == 4) = true := by decide
/-- V43.32: CCF with C=1. -/
theorem test_ccf_with_c_1 : nextHas { at_ 0x1000 [0x3F] with regs := { RegFile.zero with f := 0x01 } }
    (fun t => t.regs.f == 0x10 && t.pc == 0x1001 && t.cycles == 4) = true := by decide
/-- V44.1: ADD HL,BC FFFF+0001 (toyz80 §8). -/
theorem test_add_hl_bc_ffff_0001 : nextHas { at_ 0x1000 [0x09] with regs := { RegFile.zero with h := 0xFF, l := 0xFF, c := 0x01 } }
    (fun t => t.regs.f == 0x11 && t.regs.h == 0x00 && t.regs.l == 0x00 && t.pc == 0x1001 && t.cycles == 11) = true := by decide
/-- V44.2: ADD HL,DE 0FFF+0001 (H from bit 11). -/
theorem test_add_hl_de_0fff_0001_h_from_bit_11 : nextHas { at_ 0x1000 [0x19] with regs := { RegFile.zero with h := 0x0F, l := 0xFF, e := 0x01, f := 0xC4 } }
    (fun t => t.regs.f == 0xD4 && t.regs.h == 0x10 && t.regs.l == 0x00 && t.pc == 0x1001 && t.wz == 0x1000 && t.cycles == 11) = true := by decide
/-- V44.3: ADC HL,BC 7FFF+0000+1. -/
theorem test_adc_hl_bc_7fff_0000_1 : nextHas { at_ 0x1000 [0xED, 0x4A] with regs := { RegFile.zero with h := 0x7F, l := 0xFF, f := 0x01 } }
    (fun t => t.regs.f == 0x94 && t.regs.h == 0x80 && t.regs.l == 0x00 && t.pc == 0x1002 && t.wz == 0x8000 && t.cycles == 15) = true := by decide
/-- V44.5: SBC HL,DE 0000-0001. -/
theorem test_sbc_hl_de_0000_0001 : nextHas { at_ 0x1000 [0xED, 0x52] with regs := { RegFile.zero with e := 0x01 } }
    (fun t => t.regs.f == 0xBB && t.regs.h == 0xFF && t.regs.l == 0xFF && t.pc == 0x1002 && t.wz == 0x0001 && t.cycles == 15) = true := by decide
/-- V44.8: ADD IX,SP. -/
theorem test_add_ix_sp : nextHas { at_ 0x1000 [0xDD, 0x39] with ix := 0x1000, sp := 0x2000 }
    (fun t => t.regs.f == 0x20 && t.ix == 0x3000 && t.pc == 0x1002 && t.wz == 0x1001 && t.cycles == 15) = true := by decide
/-- V44.9: INC SP at FFFF. -/
theorem test_inc_sp_at_ffff : nextHas { at_ 0x1000 [0x33] with regs := { RegFile.zero with f := 0xFF }, sp := 0xFFFF }
    (fun t => t.sp == 0x0000 && t.pc == 0x1001 && t.cycles == 6) = true := by decide
/-- V44.10: DEC BC at 0000. -/
theorem test_dec_bc_at_0000 : nextHas (at_ 0x1000 [0x0B])
    (fun t => t.regs.b == 0xFF && t.regs.c == 0xFF && t.pc == 0x1001 && t.cycles == 6) = true := by decide
/-- V44.11: INC IY. -/
theorem test_inc_iy : nextHas { at_ 0x1000 [0xFD, 0x23] with iy := 0x00FF }
    (fun t => t.iy == 0x0100 && t.pc == 0x1002 && t.cycles == 10) = true := by decide
/-- V45.2: RLA 80, S Z PV kept. -/
theorem test_rla_80_s_z_pv_kept : nextHas { at_ 0x1000 [0x17] with regs := { RegFile.zero with a := 0x80, f := 0xC4 } }
    (fun t => t.regs.a == 0x00 && t.regs.f == 0xC5 && t.pc == 0x1001 && t.cycles == 4) = true := by decide
/-- V45.4: RRA 01 with C=1. -/
theorem test_rra_01_with_c_1 : nextHas { at_ 0x1000 [0x1F] with regs := { RegFile.zero with a := 0x01, f := 0x01 } }
    (fun t => t.regs.a == 0x80 && t.pc == 0x1001 && t.cycles == 4) = true := by decide
/-- V45.6: RRC (HL). -/
theorem test_rrc_hl : nextHas { poked (at_ 0x1000 [0xCB, 0x0E]) [(0x2000, 0x01)] with regs := { RegFile.zero with h := 0x20 } }
    (fun t => t.regs.f == 0x81 && t.pc == 0x1002 && t.peek 0x2000 == 0x80 && t.cycles == 15) = true := by decide
/-- V45.8: RR E with C=1. -/
theorem test_rr_e_with_c_1 : nextHas { at_ 0x1000 [0xCB, 0x1B] with regs := { RegFile.zero with e := 0x01, f := 0x01 } }
    (fun t => t.regs.f == 0x81 && t.regs.e == 0x80 && t.pc == 0x1002 && t.cycles == 8) = true := by decide
/-- V45.10: SRA A 81. -/
theorem test_sra_a_81 : nextHas { at_ 0x1000 [0xCB, 0x2F] with regs := { RegFile.zero with a := 0x81 } }
    (fun t => t.regs.a == 0xC0 && t.regs.f == 0x85 && t.pc == 0x1002 && t.cycles == 8) = true := by decide
/-- V45.11: SLL A 00 (undocumented). -/
theorem test_sll_a_00_undocumented : nextHas (at_ 0x1000 [0xCB, 0x37])
    (fun t => t.regs.a == 0x01 && t.pc == 0x1002 && t.cycles == 8) = true := by decide
/-- V45.13: BIT 7,A on 80. -/
theorem test_bit_7_a_on_80 : nextHas { at_ 0x1000 [0xCB, 0x7F] with regs := { RegFile.zero with a := 0x80 } }
    (fun t => t.regs.f == 0x90 && t.pc == 0x1002 && t.cycles == 8) = true := by decide
/-- V45.16: BIT 0,(HL), WZ=2800. -/
theorem test_bit_0_hl_wz_2800 : nextHas { poked (at_ 0x3000 [0xCB, 0x46]) [(0x1000, 0x00)] with regs := { RegFile.zero with h := 0x10 }, wz := 0x2800 }
    (fun t => t.regs.f == 0x7C && t.pc == 0x3002 && t.cycles == 12) = true := by decide
/-- V45.18: BIT 0,(IX+16). -/
theorem test_bit_0_ix_16 : nextHas { poked (at_ 0x1000 [0xDD, 0xCB, 0x10, 0x46]) [(0x3000, 0x01)] with ix := 0x2FF0 }
    (fun t => t.regs.f == 0x30 && t.pc == 0x1004 && t.wz == 0x3000 && t.cycles == 20) = true := by decide
/-- V45.19: BIT 6,(IY+d), any zzz (4F). -/
theorem test_bit_6_iy_d_any_zzz_4f : nextHas { poked (at_ 0x1000 [0xFD, 0xCB, 0x00, 0x77]) [(0x2000, 0x00)] with iy := 0x2000 }
    (fun t => t.regs.f == 0x74 && t.pc == 0x1004 && t.wz == 0x2000 && t.cycles == 20) = true := by decide
/-- V45.20: SET 0,(HL). -/
theorem test_set_0_hl : nextHas { poked (at_ 0x1000 [0xCB, 0xC6]) [(0x2000, 0x00)] with regs := { RegFile.zero with h := 0x20 } }
    (fun t => t.pc == 0x1002 && t.peek 0x2000 == 0x01 && t.cycles == 15) = true := by decide
/-- V45.21: RES 7,(HL). -/
theorem test_res_7_hl : nextHas { poked (at_ 0x1000 [0xCB, 0xBE]) [(0x2000, 0xFF)] with regs := { RegFile.zero with h := 0x20 } }
    (fun t => t.pc == 0x1002 && t.peek 0x2000 == 0x7F && t.cycles == 15) = true := by decide
/-- V45.22: RLC (IX+1) -> B (DDCB copy). -/
theorem test_rlc_ix_1_b_ddcb_copy : nextHas { poked (at_ 0x1000 [0xDD, 0xCB, 0x01, 0x00]) [(0x2001, 0x80)] with ix := 0x2000 }
    (fun t => t.regs.f == 0x01 && t.regs.b == 0x01 && t.pc == 0x1004 && t.wz == 0x2001 && t.peek 0x2001 == 0x01 && t.cycles == 23) = true := by decide
/-- V45.24: RES 0,(IY-1) -> H (plain H). -/
theorem test_res_0_iy_1_h_plain_h : nextHas { poked (at_ 0x1000 [0xFD, 0xCB, 0xFF, 0x84]) [(0x2000, 0xFF)] with iy := 0x2001 }
    (fun t => t.regs.h == 0xFE && t.pc == 0x1004 && t.wz == 0x2000 && t.peek 0x2000 == 0xFE && t.cycles == 23) = true := by decide
/-- V45.26: RLD. -/
theorem test_rld : nextHas { poked (at_ 0x1000 [0xED, 0x6F]) [(0x2000, 0x34)] with regs := { RegFile.zero with a := 0x12, h := 0x20 } }
    (fun t => t.regs.a == 0x13 && t.pc == 0x1002 && t.wz == 0x2001 && t.peek 0x2000 == 0x42 && t.cycles == 18) = true := by decide
/-- V45.27: RRD. -/
theorem test_rrd : nextHas { poked (at_ 0x1000 [0xED, 0x67]) [(0x2000, 0x34)] with regs := { RegFile.zero with a := 0x12, h := 0x20 } }
    (fun t => t.regs.a == 0x14 && t.regs.f == 0x04 && t.pc == 0x1002 && t.wz == 0x2001 && t.peek 0x2000 == 0x23 && t.cycles == 18) = true := by decide
/-- V46.1: JP nn. -/
theorem test_jp_nn : nextHas (at_ 0x1000 [0xC3, 0x00, 0x20])
    (fun t => t.pc == 0x2000 && t.wz == 0x2000 && t.cycles == 10) = true := by decide
/-- V46.2: JP NZ,nn not taken. -/
theorem test_jp_nz_nn_not_taken : nextHas { at_ 0x1000 [0xC2, 0x00, 0x20] with regs := { RegFile.zero with f := 0x40 } }
    (fun t => t.pc == 0x1003 && t.wz == 0x2000 && t.cycles == 10) = true := by decide
/-- V46.6: JR -128. -/
theorem test_jr_128 : nextHas (at_ 0x1000 [0x18, 0x80])
    (fun t => t.pc == 0x0F82 && t.wz == 0x0F82 && t.cycles == 12) = true := by decide
/-- V46.8: JR +1 at FFFE (wraps). -/
theorem test_jr_1_at_fffe_wraps : nextHas (at_ 0xFFFE [0x18, 0x01])
    (fun t => t.pc == 0x0001 && t.wz == 0x0001 && t.cycles == 12) = true := by decide
/-- V46.9: JR C,e not taken. -/
theorem test_jr_c_e_not_taken : nextHas (at_ 0x1000 [0x38, 0x10])
    (fun t => t.pc == 0x1002 && t.cycles == 7) = true := by decide
/-- V46.11: DJNZ B=1 (falls through). -/
theorem test_djnz_b_1_falls_through : nextHas { at_ 0x1000 [0x10, 0xFE] with regs := { RegFile.zero with b := 0x01 } }
    (fun t => t.regs.b == 0x00 && t.pc == 0x1002 && t.cycles == 8) = true := by decide
/-- V46.12: DJNZ B=0 (taken, B=FF). -/
theorem test_djnz_b_0_taken_b_ff : nextHas (at_ 0x1000 [0x10, 0xFE])
    (fun t => t.regs.b == 0xFF && t.wz == 0x1000 && t.cycles == 13) = true := by decide
/-- V46.13: JP (HL). -/
theorem test_jp_hl : nextHas { at_ 0x1000 [0xE9] with regs := { RegFile.zero with h := 0x40 } }
    (fun t => t.pc == 0x4000 && t.cycles == 4) = true := by decide
/-- V46.14: JP (IY). -/
theorem test_jp_iy : nextHas { at_ 0x1000 [0xFD, 0xE9] with iy := 0x5000 }
    (fun t => t.pc == 0x5000 && t.cycles == 8) = true := by decide
/-- V46.15: CALL nn. -/
theorem test_call_nn : nextHas { at_ 0x1000 [0xCD, 0x00, 0x20] with sp := 0xF000 }
    (fun t => t.sp == 0xEFFE && t.pc == 0x2000 && t.wz == 0x2000 && t.peek 0xEFFE == 0x03 && t.peek 0xEFFF == 0x10 && t.cycles == 17) = true := by decide
/-- V46.16: CALL Z,nn not taken. -/
theorem test_call_z_nn_not_taken : nextHas { at_ 0x1000 [0xCC, 0x00, 0x20] with sp := 0xF000 }
    (fun t => t.pc == 0x1003 && t.wz == 0x2000 && t.cycles == 10) = true := by decide
/-- V46.17: RET. -/
theorem test_ret : nextHas { poked (at_ 0x1000 [0xC9]) [(0xEFFE, 0x03), (0xEFFF, 0x10)] with sp := 0xEFFE }
    (fun t => t.sp == 0xF000 && t.pc == 0x1003 && t.wz == 0x1003 && t.cycles == 10) = true := by decide
/-- V46.18: RET C not taken. -/
theorem test_ret_c_not_taken : nextHas { at_ 0x1000 [0xD8] with sp := 0xEFFE }
    (fun t => t.pc == 0x1001 && t.cycles == 5) = true := by decide
/-- V46.19: RET P taken. -/
theorem test_ret_p_taken : nextHas { poked (at_ 0x1000 [0xF0]) [(0xEFFE, 0x34), (0xEFFF, 0x12)] with sp := 0xEFFE }
    (fun t => t.sp == 0xF000 && t.pc == 0x1234 && t.wz == 0x1234 && t.cycles == 11) = true := by decide
/-- V46.20: RST 38 at 1234. -/
theorem test_rst_38_at_1234 : nextHas { at_ 0x1234 [0xFF] with sp := 0x2000 }
    (fun t => t.sp == 0x1FFE && t.pc == 0x0038 && t.wz == 0x0038 && t.peek 0x1FFE == 0x35 && t.peek 0x1FFF == 0x12 && t.cycles == 11) = true := by decide
/-- V46.21: RETI copies IFF2 to IFF1. -/
theorem test_reti_copies_iff2_to_iff1 : nextHas { poked (at_ 0x1000 [0xED, 0x4D]) [(0x2000, 0x00), (0x2001, 0x30)] with sp := 0x2000, iff1 := false, iff2 := true }
    (fun t => t.iff1 == true && t.sp == 0x2002 && t.pc == 0x3000 && t.wz == 0x3000 && t.cycles == 14) = true := by decide
/-- V46.22: RETN leaves IFFs. -/
theorem test_retn_leaves_iffs : nextHas { poked (at_ 0x1000 [0xED, 0x45]) [(0x2000, 0x00), (0x2001, 0x30)] with sp := 0x2000, iff1 := false, iff2 := true }
    (fun t => t.sp == 0x2002 && t.pc == 0x3000 && t.wz == 0x3000 && t.cycles == 14) = true := by decide
/-- V47.1: LDI, BC 1->0. -/
theorem test_ldi_bc_1_0 : nextHas { poked (at_ 0x1000 [0xED, 0xA0]) [(0x2000, 0x0A)] with regs := { RegFile.zero with h := 0x20, d := 0x30, c := 0x01 } }
    (fun t => t.regs.f == 0x28 && t.regs.c == 0x00 && t.regs.e == 0x01 && t.regs.l == 0x01 && t.pc == 0x1002 && t.peek 0x3000 == 0x0A && t.cycles == 16) = true := by decide
/-- V47.3: LDIR BC=3, one step (repeats). -/
theorem test_ldir_bc_3_one_step_repeats : nextHas { poked (at_ 0x1000 [0xED, 0xB0]) [(0x2000, 0x01), (0x2001, 0x02), (0x2002, 0x03)] with regs := { RegFile.zero with h := 0x20, d := 0x30, c := 0x03 } }
    (fun t => t.regs.f == 0x04 && t.regs.c == 0x02 && t.regs.e == 0x01 && t.regs.l == 0x01 && t.wz == 0x1001 && t.peek 0x3000 == 0x01 && t.cycles == 21) = true := by decide
/-- V47.6: CPI. -/
theorem test_cpi : nextHas { poked (at_ 0x1000 [0xED, 0xA1]) [(0x2000, 0x01)] with regs := { RegFile.zero with a := 0x10, h := 0x20, c := 0x02 } }
    (fun t => t.regs.f == 0x3E && t.regs.c == 0x01 && t.regs.l == 0x01 && t.pc == 0x1002 && t.wz == 0x0001 && t.cycles == 16) = true := by decide
/-- V47.9: CPD. -/
theorem test_cpd : nextHas { poked (at_ 0x1000 [0xED, 0xA9]) [(0x2000, 0x00)] with regs := { RegFile.zero with h := 0x20, c := 0x01 }, wz := 0x0100 }
    (fun t => t.regs.f == 0x42 && t.regs.c == 0x00 && t.regs.h == 0x1F && t.regs.l == 0xFF && t.pc == 0x1002 && t.wz == 0x00FF && t.cycles == 16) = true := by decide
/-- V47.10: INI. -/
theorem test_ini : nextHas { at_ 0x1000 [0xED, 0xA2] with regs := { RegFile.zero with b := 0x01, c := 0x10, h := 0x20 }, ioIn := [0x80] }
    (fun t => t.regs.f == 0x42 && t.regs.b == 0x00 && t.regs.l == 0x01 && t.pc == 0x1002 && t.wz == 0x0111 && t.peek 0x2000 == 0x80 && t.ioTrace == [.input 0x10 0x80] && t.cycles == 16) = true := by decide
/-- V47.11: IND. -/
theorem test_ind : nextHas { at_ 0x1000 [0xED, 0xAA] with regs := { RegFile.zero with b := 0x02, c := 0x01, h := 0x20 }, ioIn := [0xFF] }
    (fun t => t.regs.f == 0x06 && t.regs.b == 0x01 && t.regs.h == 0x1F && t.regs.l == 0xFF && t.pc == 0x1002 && t.wz == 0x0200 && t.peek 0x2000 == 0xFF && t.ioTrace == [.input 0x01 0xFF] && t.cycles == 16) = true := by decide
/-- V47.12: OUTI. -/
theorem test_outi : nextHas { poked (at_ 0x1000 [0xED, 0xA3]) [(0x20FF, 0x41)] with regs := { RegFile.zero with b := 0x02, c := 0x01, h := 0x20, l := 0xFF } }
    (fun t => t.regs.f == 0x04 && t.regs.b == 0x01 && t.regs.h == 0x21 && t.regs.l == 0x00 && t.pc == 0x1002 && t.wz == 0x0102 && t.ioTrace == [.output 0x01 0x41] && t.cycles == 16) = true := by decide
/-- V47.14: OUTD. -/
theorem test_outd : nextHas { poked (at_ 0x1000 [0xED, 0xAB]) [(0x2000, 0xFF)] with regs := { RegFile.zero with b := 0x01, c := 0x07, h := 0x20 } }
    (fun t => t.regs.f == 0x57 && t.regs.b == 0x00 && t.regs.h == 0x1F && t.regs.l == 0xFF && t.pc == 0x1002 && t.wz == 0x0006 && t.ioTrace == [.output 0x07 0xFF] && t.cycles == 16) = true := by decide
/-- V48.1: IN A,(n). -/
theorem test_in_a_n : nextHas { at_ 0x1000 [0xDB, 0x01] with regs := { RegFile.zero with a := 0x12 }, ioIn := [0x41] }
    (fun t => t.regs.a == 0x41 && t.pc == 0x1002 && t.wz == 0x1202 && t.ioTrace == [.input 0x01 0x41] && t.cycles == 11) = true := by decide
/-- V48.2: IN B,(C), input 00. -/
theorem test_in_b_c_input_00 : nextHas { at_ 0x1000 [0xED, 0x40] with regs := { RegFile.zero with c := 0x01, f := 0x01 }, ioIn := [0x00] }
    (fun t => t.regs.f == 0x45 && t.pc == 0x1002 && t.wz == 0x0002 && t.ioTrace == [.input 0x01 0x00] && t.cycles == 12) = true := by decide
/-- V48.4: OUT (n),A. -/
theorem test_out_n_a : nextHas { at_ 0x1000 [0xD3, 0xFE] with regs := { RegFile.zero with a := 0x41 } }
    (fun t => t.pc == 0x1002 && t.wz == 0x41FF && t.ioTrace == [.output 0xFE 0x41] && t.cycles == 11) = true := by decide
/-- V48.5: OUT (C),L. -/
theorem test_out_c_l : nextHas { at_ 0x1000 [0xED, 0x69] with regs := { RegFile.zero with c := 0xFF, l := 0x99 } }
    (fun t => t.pc == 0x1002 && t.wz == 0x0100 && t.ioTrace == [.output 0xFF 0x99] && t.cycles == 12) = true := by decide
/-- V48.7: HALT. -/
theorem test_halt : nextHas (at_ 0x1000 [0x76])
    (fun t => t.result == .halt 0x1000 && t.cycles == 4) = true := by decide
/-- V48.9: EI. -/
theorem test_ei : nextHas (at_ 0x1000 [0xFB])
    (fun t => t.iff1 == true && t.iff2 == true && t.pc == 0x1001 && t.cycles == 4) = true := by decide
/-- V48.10: DI. -/
theorem test_di : nextHas { at_ 0x1000 [0xF3] with iff1 := true, iff2 := true }
    (fun t => t.iff1 == false && t.iff2 == false && t.pc == 0x1001 && t.cycles == 4) = true := by decide

/-! ## Witnesses: states and operands that meet the hypotheses of each statement -/

/-- Every page RAM, pointers at the ends of the address space. -/
def ram : State := { at_ 0x1000 [0x3E, 0x41] with
  regs := { a := 0x12, f := 0x41, b := 0xFF, c := 0xFF, d := 0x00, e := 0x00, h := 0xFF, l := 0xFF }, ix := 0xFFFF, iy := 0x0000, sp := 0x0000 }

/-- The same with the last page unmapped. -/
def holed : State := paged ram 63 PageAttr.unmapped

theorem witness_EncodeThenDecode : (Instr.ld_IX_nn 0xFFFF).wellFormed = true := by decide
theorem witness_DecodeThenEncode : decode [0xDD, 0xCB, 0x80, 0xFF, 0x00] = .ok (.set_7_atIXd_to_A 0x80, 4) := by decide
theorem witness_DefinedOpcodes : decodeForm [OpPrefix.ED.byte, 0xFF, 0x00, 0x00] = .ok (.invalid .ED 0xFF)
    ∧ decodeForm [OpPrefix.FD.byte, 0xCB, 0x00, 0x46] = .ok (.bitIdx .b0 .IY 0x00 6)
    ∧ definedAfter .DD 0xFD = false ∧ (0xFF : Byte) ≠ 0xED ∧ (0xFF : Byte) ≠ 0xDD ∧ (0xFF : Byte) ≠ 0xFD := by decide
theorem witness_StepRunsTheInstruction : decode (ram.instructionBytes ram.pc) = .ok (.ld_A_n 0x41, 2)
    ∧ (∀ k, k < 2 → ram.canRead (ram.pc + BitVec.ofNat 16 k) = true) ∧ (Instr.ld_A_n 0x41).wellFormed = true
    ∧ encode (.ld_A_n 0x41) = [0x3E, 0x41] ∧ ram.peek ram.pc = 0x3E ∧ ram.peek (ram.pc + 1) = 0x41 := by decide
/-- An instruction whose bytes wrap from 0xFFFF to 0x0000 is held there. -/
theorem witness_StepRunsTheInstruction_wrap : (at_ 0xFFFF [0x3E, 0x41]).holdsCode 0xFFFF [0x3E, 0x41] := by
  intro k v h
  match k, h with
  | 0, h => cases h; decide
  | 1, h => cases h; decide
theorem witness_FetchFaults : (let s := paged (at_ 0x0FFF [0x3E, 0x41]) 4 PageAttr.unmapped
    decode (s.instructionBytes s.pc) = .ok (.ld_A_n 0x41, 2) ∧ (1 < 2) ∧ (∀ j, j < 1 → s.canRead (s.pc + BitVec.ofNat 16 j) = true)
      ∧ s.canRead (s.pc + BitVec.ofNat 16 1) = false) := by decide
theorem witness_UndefinedOpcodeFaults : definedAfter .ED 0xFF = false ∧ (at_ 0xFFFF [0xED, 0xFF]).holdsCode 0xFFFF [OpPrefix.ED.byte, 0xFF] := by
  refine ⟨by decide, ?_⟩
  intro k v h
  match k, h with
  | 0, h => cases h; decide
  | 1, h => cases h; decide
theorem witness_Inv : ram.Inv := by unfold State.Inv; decide
theorem witness_StepKeepsInvariant : ∃ t, step ram = .next t := ⟨_, rfl⟩
theorem witness_frames : (∃ t, exec (Form.ldMemReg .B).toInstr ram = .next t) ∧ RegName.HLalt ∉ formWrites (.ldMemReg .B)
    ∧ (0x0000 : Word) ∉ formStores (.ldMemReg .B) ram ∧ (0xFFFF : Word) ∈ formStores (.ldMemReg .B) ram
    ∧ formUsesPorts (.ldMemReg .B) = false := ⟨⟨_, rfl⟩, by decide⟩
theorem witness_Completes : (formAccesses .ldSpHl ram).find? (fun x => !ram.permits x) = none
    ∧ (formAccesses (.pushPair .BC) ram).find? (fun x => !ram.permits x) = none
    ∧ (formAccesses (.pushPair .BC) holed).find? (fun x => !holed.permits x) = some (wr 0xFFFF) := by decide
theorem witness_ReadAfterWrite : Memory.wf ram.mem = true ∧ ram.canWrite 0xFFFF = true ∧ ram.canRead 0xFFFF = true
    ∧ holed.canWrite 0xFFFF = false ∧ (paged ram 63 ⟨false, true⟩).canWrite 0xFFFF = true
    ∧ (paged ram 63 ⟨false, true⟩).canRead 0xFFFF = false ∧ (0x0000 : Word) ≠ 0xFFFF := by decide
theorem witness_WordAccess : ram.canRead 0xFFFF = true ∧ ram.canRead (0xFFFF + 1) = true ∧ ram.canWrite 0xFFFF = true
    ∧ ram.canWrite (0xFFFF + 1) = true ∧ holed.canRead 0xFFFF = false ∧ holed.canWrite 0xFFFF = false
    ∧ holed.canRead 0xFBFF = true ∧ holed.canRead (0xFBFF + 1) = false ∧ holed.canWrite 0xFBFF = true
    ∧ holed.canWrite (0xFBFF + 1) = false := by decide
theorem witness_stack : Memory.wf ram.mem = true ∧ ram.canWrite (ram.sp - 1) = true ∧ ram.canWrite (ram.sp - 2) = true
    ∧ ram.canRead (ram.sp - 1) = true ∧ ram.canRead (ram.sp - 2) = true ∧ ram.canRead ram.sp = true ∧ ram.canRead (ram.sp + 1) = true
    ∧ ram.canWrite ram.sp = true ∧ ram.canWrite (ram.sp + 1) = true := by decide
theorem witness_LoadThenDump : Memory.wf ram.mem = true ∧ addressCount < 0xFFFF + [0x01, 0x02].length
    ∧ 0xFFFE + [0x01, 0x02].length ≤ addressCount ∧ ((0x0000 : Word).toNat < 0xFFFE) ∧ (1 + [0x01].length ≤ (0xFFFF : Word).toNat) := by decide
theorem witness_BusConstruction : (∃ r ∈ [Region.mk 0xFC00 2048 PageAttr.ram []], r.size % 1024 ≠ 0 ∨ 65536 < r.base + r.size
      ∨ r.size < r.image.length)
    ∧ (∀ r ∈ [Region.mk 0x0000 1024 PageAttr.rom [0x76], Region.mk 0xFC00 1024 PageAttr.ram []],
      r.size % 1024 = 0 ∧ r.base + r.size ≤ 65536 ∧ r.image.length ≤ r.size)
    ∧ (Region.mk 0xFC00 1024 PageAttr.ram []).covers (63 : Fin 64).val = true
    ∧ (∀ r ∈ [Region.mk 0x0000 1024 PageAttr.rom [0x76], Region.mk 0xFC00 1024 PageAttr.ram []], r.covers (5 : Fin 64).val = false) := by decide
theorem witness_BreakpointWrapper_taken : ∃ t b, step (ram.setBreakpoint 0x1002 (some 1)) = .next t ∧ t.result = .ok
    ∧ t.breakpointAt t.pc = some b := ⟨_, ⟨0x1002, some 1⟩, rfl, rfl, rfl⟩
theorem witness_BreakpointWrapper_none : ∃ t, step ram = .next t ∧ t.breakpointAt t.pc = none := ⟨_, rfl, rfl⟩
theorem witness_BreakpointWrapper_halt : ∃ t, step (at_ 0x1000 [0x76]) = .next t ∧ t.result = .halt 0x1000 := ⟨_, rfl, rfl⟩
theorem witness_BreakpointWrapper_fault : step (at_ 0x1000 [0xED, 0x00]) = .fault (.invalidInstruction 0x1000 0xED 0x00) := rfl
theorem witness_BreakpointMap : ram.Inv ∧ (0x0000 : Word) ≠ 0xFFFF := ⟨witness_Inv, by decide⟩
theorem witness_RunEnds_halt : ∃ t, drive 2 (at_ 0xFFFF [0x00, 0x76]) = .halted t := ⟨_, rfl⟩
theorem witness_RunEnds_fault : drive 2 (at_ 0x1000 [0x00, 0xED, 0x00]) = .faulted (.invalidInstruction 0x1001 0xED 0x00) := rfl
theorem witness_RunEnds_shutdown : (ram.requestShutdown "quit").shutdownReasons ≠ [] := by decide
theorem witness_DisassemblerLength : ram.fetchForm = .ok (.ldRegImm .A 0x41) ∧ (∃ t, step ram = .next t)
    ∧ formPcAfter (.ldRegImm .A 0x41) ram = ram.pc + BitVec.ofNat 16 (Form.ldRegImm .A 0x41).length := ⟨rfl, ⟨_, rfl⟩, by decide⟩
/-- Loads, stores and operations through HL, BC, DE, nn and nn + 1, each address at an end of the address space. -/
theorem witness_pointers : ram.hl = 0xFFFF ∧ ram.canRead ram.hl = true ∧ ram.canWrite ram.hl = true
    ∧ ram.canRead (ram.accPointer .BC) = true ∧ ram.canWrite (ram.accPointer .DE) = true ∧ ram.canWrite ram.de = true
    ∧ ram.canRead 0xFFFF = true ∧ ram.canRead (0xFFFF + 1) = true ∧ ram.canWrite 0xFFFF = true ∧ ram.canWrite (0xFFFF + 1) = true := by decide
/-- Indexed operands at both ends of d, each wrapping. -/
theorem witness_indexed : ram.index .IX + sext 0x01 = 0x0000 ∧ ram.canRead (ram.index .IX + sext 0x01) = true
    ∧ ram.canWrite (ram.index .IX + sext 0x7F) = true ∧ ram.canRead (ram.index .IY + sext 0x80) = true
    ∧ ram.canWrite (ram.index .IY + sext 0x80) = true := by decide
theorem witness_Exchanges : ∃ t u, exec (Form.exx).toInstr ram = .next t ∧ exec (Form.exx).toInstr t = .next u := ⟨_, _, rfl, rfl⟩
theorem witness_Jumps : ram.regs.b ≠ 1 ∧ ({ ram with regs := { ram.regs with b := 1 } }).regs.b = 1 := by decide
theorem witness_conditions : condSpec .Z ram.regs.f = true ∧ condSpec .NZ ram.regs.f = false ∧ condSpec .P ram.regs.f = true
    ∧ condSpec .M ram.regs.f = false := by decide
theorem witness_DecimalAdjust : 99 < 100 ∧ 0 < 100 := by decide

/-- LDIR at 0x1000 with BC = 2, the source wrapping from 0xFFFF to 0x0000, the destination at 0x3000. -/
def blockStart : State := { at_ 0x1000 [0xED, 0xB0] with
  regs := { RegFile.zero with b := 0x00, c := 0x02, d := 0x30, e := 0x00, h := 0xFF, l := 0xFF } }

theorem witness_LdirCopiesTheBlock : Memory.wf blockStart.mem = true ∧ 2 = blockStart.bc.toNat
    ∧ (∀ k, k < 2 → blockStart.canRead (blockStart.hl + BitVec.ofNat 16 k) = true ∧ blockStart.canWrite (blockStart.de + BitVec.ofNat 16 k) = true)
    ∧ (∀ k, k < 2 → ∀ j, j < k → blockStart.de + BitVec.ofNat 16 j ≠ blockStart.hl + BitVec.ofNat 16 k)
    ∧ (∀ k, k < 2 → blockStart.de + BitVec.ofNat 16 k ≠ blockStart.pc ∧ blockStart.de + BitVec.ofNat 16 k ≠ blockStart.pc + 1) := by decide
/-- The overlapping copy downwards by one byte meets them too. -/
theorem witness_LdirCopiesTheBlock_overlap : (let s := { blockStart with regs := { blockStart.regs with c := 0x03, h := 0x30, l := 0x01 } }
    3 = s.bc.toNat ∧ s.de + 1 = s.hl ∧ (∀ k, k < 3 → ∀ j, j < k → s.de + BitVec.ofNat 16 j ≠ s.hl + BitVec.ofNat 16 k)) := by decide
/-- BC = 0 on entry and a copy of the whole memory onto itself meet them. -/
theorem witness_LdirCopiesTheBlock_all : (let s := { blockStart with regs := { blockStart.regs with c := 0x00, h := 0x30, l := 0x00 } }
    65536 = (if s.bc = 0 then 65536 else s.bc.toNat)
    ∧ (∀ k, k < 65536 → s.canRead (s.hl + BitVec.ofNat 16 k) = true ∧ s.canWrite (s.de + BitVec.ofNat 16 k) = true)
    ∧ (∀ j k, j < k → k < 65536 → s.de + BitVec.ofNat 16 j ≠ s.hl + BitVec.ofNat 16 k)
    ∧ (∀ k, k < 65536 → (s.de + BitVec.ofNat 16 k = s.pc → s.peek (s.hl + BitVec.ofNat 16 k) = 0xED)
      ∧ (s.de + BitVec.ofNat 16 k = s.pc + 1 → s.peek (s.hl + BitVec.ofNat 16 k) = 0xB0))) := by
  have hp : ∀ p : Fin 64, blockStart.pages[p].readable = true ∧ blockStart.pages[p].writable = true := by decide
  refine ⟨by decide, fun k _ => ⟨(hp (pageOf _)).1, (hp (pageOf _)).2⟩, fun j k hj hk h => ?_, fun k _ => ⟨fun h => ?_, fun h => ?_⟩⟩
  · have e := congrArg BitVec.toNat h
    simp [blockStart, State.de, State.hl, at_] at e
    omega
  · change blockStart.peek (blockStart.de + BitVec.ofNat 16 k) = _
    rw [show blockStart.de + BitVec.ofNat 16 k = blockStart.pc from h]; decide
  · change blockStart.peek (blockStart.de + BitVec.ofNat 16 k) = _
    rw [show blockStart.de + BitVec.ofNat 16 k = blockStart.pc + 1 from h]; decide
theorem witness_LdirCopiesTheBlock_code : blockStart.holdsCode blockStart.pc [0xED, 0xB0] := by
  intro k v h
  match k, h with
  | 0, h => cases h; decide
  | 1, h => cases h; decide

/-- A latch at port 1 and a console at ports 0xFE and 0xFF. -/
def wired : State := { ram with
  slots := [⟨1, 0, 1⟩, ⟨0xFE, 1, 0xFE⟩, ⟨0xFF, 1, 0xFE⟩]
  devices := [⟨.latch 0x00, false⟩, ⟨.console ⟨some 0x61, none, true, true, []⟩, false⟩] }

/-- The same with an empty buffer, where the draws say that a byte has arrived, or that none has; a mode byte has been written. -/
def waiting (draws : List Byte) : State := { wired with
  ioIn := draws, devices := [⟨.latch 0x00, false⟩, ⟨.console ⟨none, some 0x4E, false, true, []⟩, false⟩] }

theorem witness_DeviceAnswers_empty : (waiting [0x02, 0x61]).devices[1]? = some ⟨.console ⟨none, some 0x4E, false, true, []⟩, false⟩
    ∧ slotOf (waiting []).slots 0xFF = some ⟨0xFF, 1, 0xFE⟩ ∧ ((waiting [0x02, 0x61]).draw 0xFE).1.getLsbD 1 = true
    ∧ ((waiting [0xFD]).draw 0xFE).1.getLsbD 1 = false ∧ (some 0x4E : Option Byte) ≠ none := by decide
theorem witness_DeviceAnswers : slotOf wired.slots 0x01 = some ⟨1, 0, 1⟩ ∧ wired.devices[0]? = some ⟨.latch 0x00, false⟩
    ∧ slotOf wired.slots 0xFE = some ⟨0xFE, 1, 0xFE⟩ ∧ slotOf wired.slots 0xFF = some ⟨0xFF, 1, 0xFE⟩
    ∧ wired.devices[1]? = some ⟨.console ⟨some 0x61, none, true, true, []⟩, false⟩
    ∧ (0xFE : Byte).toNat - 0xFE = 0 ∧ (0xFF : Byte).toNat - 0xFE = 1 ∧ slotOf wired.slots 0x00 = none := by decide
theorem witness_Completes_nop : formAccesses .nop ram = [] ∧ (∀ p op, Form.nop ≠ .invalid p op) :=
  ⟨rfl, fun _ _ h => by cases h⟩

end Sys2Proof.Tests
end

section
/-! The memory rules (R72 to R74): what a byte or a word access answers after a store, and where a word access fails. -/

namespace Sys2Proof.Machine

/-! ## One byte -/

/-- A byte stored is what a permitted read answers. -/
theorem State.memRead_poke_same {s : State} {a : Word} (hm : Memory.wf s.mem = true) (v : Byte) (hr : s.canRead a = true) :
    (s.poke a v).memRead a = .ok v := by
  rw [State.memRead_ok ((State.canRead_poke s a v a).trans hr), State.peek_poke_same hm]

/-- Storing a byte changes no read of another address, neither its byte nor its fault. -/
theorem State.memRead_poke_other (s : State) {a b : Word} (v : Byte) (hb : b ≠ a) :
    (s.poke a v).memRead b = s.memRead b := by
  cases hr : s.canRead b with
  | true => rw [State.memRead_ok hr, State.memRead_ok ((State.canRead_poke s a v b).trans hr), State.peek_poke_other s v hb]
  | false => rw [State.memRead_forbidden hr, State.memRead_forbidden ((State.canRead_poke s a v b).trans hr), State.poke_pc]

/-! ## Words -/

/-- The two addresses of a word differ, at 0xFFFF too. -/
theorem add_one_ne_self (a : Word) : a + 1 ≠ a :=
  add_ne_left.mpr (by decide)

/-- A word read whose first byte is forbidden fails there. -/
theorem State.memRead16_forbidden_low {s : State} {a : Word} (h0 : s.canRead a = false) :
    s.memRead16 a = .error (.badAccess s.pc a .read) := by
  simp only [State.memRead16, State.memRead_forbidden h0, bind, Except.bind]

/-- A word read whose second byte is forbidden fails there. -/
theorem State.memRead16_forbidden_high {s : State} {a : Word} (h0 : s.canRead a = true) (h1 : s.canRead (a + 1) = false) :
    s.memRead16 a = .error (.badAccess s.pc (a + 1) .read) := by
  simp only [State.memRead16, State.memRead_ok h0, State.memRead_forbidden h1, bind, Except.bind]

/-- A word write whose first byte is forbidden fails there. -/
theorem State.memWrite16_forbidden_low {s : State} {a : Word} (v : Word) (h0 : s.canWrite a = false) :
    s.memWrite16 a v = .error (.badAccess s.pc a .write) := by
  simp only [State.memWrite16, State.memWrite_forbidden h0, bind, Except.bind]

/-- A word write whose second byte is forbidden fails there, the page attributes being those before its first byte. -/
theorem State.memWrite16_forbidden_high {s : State} {a : Word} (v : Word) (h0 : s.canWrite a = true)
    (h1 : s.canWrite (a + 1) = false) : s.memWrite16 a v = .error (.badAccess s.pc (a + 1) .write) := by
  have h2 : (s.poke a (lo v)).canWrite (a + 1) = false := h1
  simp only [State.memWrite16, State.memWrite_ok h0, State.memWrite_forbidden h2, State.poke_pc, bind, Except.bind]

/-- The two bytes of a word, stored low byte first, are read back as the word: the second store leaves the first byte. -/
theorem State.memRead16_poke_poke {s : State} {a : Word} (hm : Memory.wf s.mem = true) (v : Word)
    (h0 : s.canRead a = true) (h1 : s.canRead (a + 1) = true) :
    ((s.poke a (lo v)).poke (a + 1) (hi v)).memRead16 a = .ok v := by
  have hlow : ((s.poke a (lo v)).poke (a + 1) (hi v)).peek a = lo v := by
    rw [State.peek_poke_other _ _ (add_one_ne_self a).symm, State.peek_poke_same hm]
  have hhigh : ((s.poke a (lo v)).poke (a + 1) (hi v)).peek (a + 1) = hi v :=
    State.peek_poke_same (State.wf_poke hm a (lo v)) _ _
  rw [State.memRead16_ok (by simpa using h0) (by simpa using h1), hlow, hhigh, join_hi_lo]

/-- Settles O21: a permitted write is `poke`, whose reads `memRead_poke_same` and `memRead_poke_other` give. -/
theorem readAfterWrite : Obligations.ReadAfterWrite := by
  intro s a v hm
  refine ⟨State.memWrite_forbidden, fun hw => ⟨s.poke a v, State.memWrite_ok hw, State.wf_poke hm a v, ?_, ?_, ?_⟩⟩
  · exact State.memRead_poke_same hm v
  · exact fun hr => State.memRead_forbidden ((State.canRead_poke s a v a).trans hr)
  · exact fun b hb => State.memRead_poke_other s v hb

/-- Settles O22: each outcome of the two byte accesses in turn, and the word read back by `memRead16_poke_poke`. -/
theorem wordAccess : Obligations.WordAccess :=
  ⟨fun _ _ => State.memRead16_ok,
   fun _ _ => State.memRead16_forbidden_low,
   fun _ _ => State.memRead16_forbidden_high,
   fun _ _ _ => State.memWrite16_ok,
   fun _ _ v => State.memWrite16_forbidden_low v,
   fun _ _ v => State.memWrite16_forbidden_high v,
   fun _ _ v hm hw0 hw1 hr0 hr1 => ⟨_, State.memWrite16_ok hw0 hw1, State.memRead16_poke_poke hm v hr0 hr1⟩⟩

end Sys2Proof.Machine
end

section
/-! Forms and instructions: every instruction is that of a form, and what the two tables over the constructors say of a form. -/

namespace Sys2Proof.Laws.HasForm

/-- Every instruction is that of a form: the lemmas of Laws/PerInstr.lean, one for each constructor, in the constructors' order. -/
theorem every (i : Instr) : Statement i :=
  Instr.casesOn i
    nop ld_BC_nn ld_atBC_A inc_BC inc_B dec_B ld_B_n rlca ex_AF_AFalt add_HL_BC ld_A_atBC dec_BC inc_C dec_C ld_C_n rrca djnz_e ld_DE_nn
    ld_atDE_A inc_DE inc_D dec_D ld_D_n rla jr_e add_HL_DE ld_A_atDE dec_DE inc_E dec_E ld_E_n rra jr_NZ_e ld_HL_nn ld_atnn_HL inc_HL
    inc_H dec_H ld_H_n daa jr_Z_e add_HL_HL ld_HL_atnn dec_HL inc_L dec_L ld_L_n cpl jr_NC_e ld_SP_nn ld_atnn_A inc_SP inc_atHL dec_atHL
    ld_atHL_n scf jr_C_e add_HL_SP ld_A_atnn dec_SP inc_A dec_A ld_A_n ccf ld_B_B ld_B_C ld_B_D ld_B_E ld_B_H ld_B_L ld_B_atHL ld_B_A
    ld_C_B ld_C_C ld_C_D ld_C_E ld_C_H ld_C_L ld_C_atHL ld_C_A ld_D_B ld_D_C ld_D_D ld_D_E ld_D_H ld_D_L ld_D_atHL ld_D_A ld_E_B ld_E_C
    ld_E_D ld_E_E ld_E_H ld_E_L ld_E_atHL ld_E_A ld_H_B ld_H_C ld_H_D ld_H_E ld_H_H ld_H_L ld_H_atHL ld_H_A ld_L_B ld_L_C ld_L_D ld_L_E
    ld_L_H ld_L_L ld_L_atHL ld_L_A ld_atHL_B ld_atHL_C ld_atHL_D ld_atHL_E ld_atHL_H ld_atHL_L halt ld_atHL_A ld_A_B ld_A_C ld_A_D ld_A_E
    ld_A_H ld_A_L ld_A_atHL ld_A_A add_A_B add_A_C add_A_D add_A_E add_A_H add_A_L add_A_atHL add_A_A adc_A_B adc_A_C adc_A_D adc_A_E
    adc_A_H adc_A_L adc_A_atHL adc_A_A sub_B sub_C sub_D sub_E sub_H sub_L sub_atHL sub_A sbc_A_B sbc_A_C sbc_A_D sbc_A_E sbc_A_H sbc_A_L
    sbc_A_atHL sbc_A_A and_B and_C and_D and_E and_H and_L and_atHL and_A xor_B xor_C xor_D xor_E xor_H xor_L xor_atHL xor_A or_B or_C
    or_D or_E or_H or_L or_atHL or_A cp_B cp_C cp_D cp_E cp_H cp_L cp_atHL cp_A ret_NZ pop_BC jp_NZ_nn jp_nn call_NZ_nn push_BC add_A_n
    rst_00H ret_Z ret jp_Z_nn call_Z_nn call_nn adc_A_n rst_08H ret_NC pop_DE jp_NC_nn out_atn_A call_NC_nn push_DE sub_n rst_10H ret_C
    exx jp_C_nn in_A_atn call_C_nn sbc_A_n rst_18H ret_PO pop_HL jp_PO_nn ex_atSP_HL call_PO_nn push_HL and_n rst_20H ret_PE jp_atHL
    jp_PE_nn ex_DE_HL call_PE_nn xor_n rst_28H ret_P pop_AF jp_P_nn di call_P_nn push_AF or_n rst_30H ret_M ld_SP_HL jp_M_nn ei call_M_nn
    cp_n rst_38H rlc_B rlc_C rlc_D rlc_E rlc_H rlc_L rlc_atHL rlc_A rrc_B rrc_C rrc_D rrc_E rrc_H rrc_L rrc_atHL rrc_A rl_B rl_C rl_D rl_E
    rl_H rl_L rl_atHL rl_A rr_B rr_C rr_D rr_E rr_H rr_L rr_atHL rr_A sla_B sla_C sla_D sla_E sla_H sla_L sla_atHL sla_A sra_B sra_C sra_D
    sra_E sra_H sra_L sra_atHL sra_A sll_B sll_C sll_D sll_E sll_H sll_L sll_atHL sll_A srl_B srl_C srl_D srl_E srl_H srl_L srl_atHL srl_A
    bit_0_B bit_0_C bit_0_D bit_0_E bit_0_H bit_0_L bit_0_atHL bit_0_A bit_1_B bit_1_C bit_1_D bit_1_E bit_1_H bit_1_L bit_1_atHL bit_1_A
    bit_2_B bit_2_C bit_2_D bit_2_E bit_2_H bit_2_L bit_2_atHL bit_2_A bit_3_B bit_3_C bit_3_D bit_3_E bit_3_H bit_3_L bit_3_atHL bit_3_A
    bit_4_B bit_4_C bit_4_D bit_4_E bit_4_H bit_4_L bit_4_atHL bit_4_A bit_5_B bit_5_C bit_5_D bit_5_E bit_5_H bit_5_L bit_5_atHL bit_5_A
    bit_6_B bit_6_C bit_6_D bit_6_E bit_6_H bit_6_L bit_6_atHL bit_6_A bit_7_B bit_7_C bit_7_D bit_7_E bit_7_H bit_7_L bit_7_atHL bit_7_A
    res_0_B res_0_C res_0_D res_0_E res_0_H res_0_L res_0_atHL res_0_A res_1_B res_1_C res_1_D res_1_E res_1_H res_1_L res_1_atHL res_1_A
    res_2_B res_2_C res_2_D res_2_E res_2_H res_2_L res_2_atHL res_2_A res_3_B res_3_C res_3_D res_3_E res_3_H res_3_L res_3_atHL res_3_A
    res_4_B res_4_C res_4_D res_4_E res_4_H res_4_L res_4_atHL res_4_A res_5_B res_5_C res_5_D res_5_E res_5_H res_5_L res_5_atHL res_5_A
    res_6_B res_6_C res_6_D res_6_E res_6_H res_6_L res_6_atHL res_6_A res_7_B res_7_C res_7_D res_7_E res_7_H res_7_L res_7_atHL res_7_A
    set_0_B set_0_C set_0_D set_0_E set_0_H set_0_L set_0_atHL set_0_A set_1_B set_1_C set_1_D set_1_E set_1_H set_1_L set_1_atHL set_1_A
    set_2_B set_2_C set_2_D set_2_E set_2_H set_2_L set_2_atHL set_2_A set_3_B set_3_C set_3_D set_3_E set_3_H set_3_L set_3_atHL set_3_A
    set_4_B set_4_C set_4_D set_4_E set_4_H set_4_L set_4_atHL set_4_A set_5_B set_5_C set_5_D set_5_E set_5_H set_5_L set_5_atHL set_5_A
    set_6_B set_6_C set_6_D set_6_E set_6_H set_6_L set_6_atHL set_6_A set_7_B set_7_C set_7_D set_7_E set_7_H set_7_L set_7_atHL set_7_A
    in_B_atC out_atC_B sbc_HL_BC ld_atnn_BC neg retn im_0 ld_I_A in_C_atC out_atC_C adc_HL_BC ld_BC_atnn reti ld_R_A in_D_atC out_atC_D
    sbc_HL_DE ld_atnn_DE im_1 ld_A_I in_E_atC out_atC_E adc_HL_DE ld_DE_atnn im_2 ld_A_R in_H_atC out_atC_H sbc_HL_HL ld_atnn_HL_ED rrd
    in_L_atC out_atC_L adc_HL_HL ld_HL_atnn_ED rld sbc_HL_SP ld_atnn_SP in_A_atC out_atC_A adc_HL_SP ld_SP_atnn ldi cpi ini outi ldd cpd
    ind outd ldir cpir inir otir lddr cpdr indr otdr add_IX_BC add_IX_DE ld_IX_nn ld_atnn_IX inc_IX inc_IXH dec_IXH ld_IXH_n add_IX_IX
    ld_IX_atnn dec_IX inc_IXL dec_IXL ld_IXL_n inc_atIXd dec_atIXd ld_atIXd_n add_IX_SP ld_B_IXH ld_B_IXL ld_B_atIXd ld_C_IXH ld_C_IXL
    ld_C_atIXd ld_D_IXH ld_D_IXL ld_D_atIXd ld_E_IXH ld_E_IXL ld_E_atIXd ld_IXH_B ld_IXH_C ld_IXH_D ld_IXH_E ld_IXH_IXH ld_IXH_IXL
    ld_H_atIXd ld_IXH_A ld_IXL_B ld_IXL_C ld_IXL_D ld_IXL_E ld_IXL_IXH ld_IXL_IXL ld_L_atIXd ld_IXL_A ld_atIXd_B ld_atIXd_C ld_atIXd_D
    ld_atIXd_E ld_atIXd_H ld_atIXd_L ld_atIXd_A ld_A_IXH ld_A_IXL ld_A_atIXd add_A_IXH add_A_IXL add_A_atIXd adc_A_IXH adc_A_IXL
    adc_A_atIXd sub_IXH sub_IXL sub_atIXd sbc_A_IXH sbc_A_IXL sbc_A_atIXd and_IXH and_IXL and_atIXd xor_IXH xor_IXL xor_atIXd or_IXH
    or_IXL or_atIXd cp_IXH cp_IXL cp_atIXd rlc_atIXd_to_B rlc_atIXd_to_C rlc_atIXd_to_D rlc_atIXd_to_E rlc_atIXd_to_H rlc_atIXd_to_L
    rlc_atIXd rlc_atIXd_to_A rrc_atIXd_to_B rrc_atIXd_to_C rrc_atIXd_to_D rrc_atIXd_to_E rrc_atIXd_to_H rrc_atIXd_to_L rrc_atIXd
    rrc_atIXd_to_A rl_atIXd_to_B rl_atIXd_to_C rl_atIXd_to_D rl_atIXd_to_E rl_atIXd_to_H rl_atIXd_to_L rl_atIXd rl_atIXd_to_A
    rr_atIXd_to_B rr_atIXd_to_C rr_atIXd_to_D rr_atIXd_to_E rr_atIXd_to_H rr_atIXd_to_L rr_atIXd rr_atIXd_to_A sla_atIXd_to_B
    sla_atIXd_to_C sla_atIXd_to_D sla_atIXd_to_E sla_atIXd_to_H sla_atIXd_to_L sla_atIXd sla_atIXd_to_A sra_atIXd_to_B sra_atIXd_to_C
    sra_atIXd_to_D sra_atIXd_to_E sra_atIXd_to_H sra_atIXd_to_L sra_atIXd sra_atIXd_to_A sll_atIXd_to_B sll_atIXd_to_C sll_atIXd_to_D
    sll_atIXd_to_E sll_atIXd_to_H sll_atIXd_to_L sll_atIXd sll_atIXd_to_A srl_atIXd_to_B srl_atIXd_to_C srl_atIXd_to_D srl_atIXd_to_E
    srl_atIXd_to_H srl_atIXd_to_L srl_atIXd srl_atIXd_to_A bit_0_atIXd bit_1_atIXd bit_2_atIXd bit_3_atIXd bit_4_atIXd bit_5_atIXd
    bit_6_atIXd bit_7_atIXd res_0_atIXd_to_B res_0_atIXd_to_C res_0_atIXd_to_D res_0_atIXd_to_E res_0_atIXd_to_H res_0_atIXd_to_L
    res_0_atIXd res_0_atIXd_to_A res_1_atIXd_to_B res_1_atIXd_to_C res_1_atIXd_to_D res_1_atIXd_to_E res_1_atIXd_to_H res_1_atIXd_to_L
    res_1_atIXd res_1_atIXd_to_A res_2_atIXd_to_B res_2_atIXd_to_C res_2_atIXd_to_D res_2_atIXd_to_E res_2_atIXd_to_H res_2_atIXd_to_L
    res_2_atIXd res_2_atIXd_to_A res_3_atIXd_to_B res_3_atIXd_to_C res_3_atIXd_to_D res_3_atIXd_to_E res_3_atIXd_to_H res_3_atIXd_to_L
    res_3_atIXd res_3_atIXd_to_A res_4_atIXd_to_B res_4_atIXd_to_C res_4_atIXd_to_D res_4_atIXd_to_E res_4_atIXd_to_H res_4_atIXd_to_L
    res_4_atIXd res_4_atIXd_to_A res_5_atIXd_to_B res_5_atIXd_to_C res_5_atIXd_to_D res_5_atIXd_to_E res_5_atIXd_to_H res_5_atIXd_to_L
    res_5_atIXd res_5_atIXd_to_A res_6_atIXd_to_B res_6_atIXd_to_C res_6_atIXd_to_D res_6_atIXd_to_E res_6_atIXd_to_H res_6_atIXd_to_L
    res_6_atIXd res_6_atIXd_to_A res_7_atIXd_to_B res_7_atIXd_to_C res_7_atIXd_to_D res_7_atIXd_to_E res_7_atIXd_to_H res_7_atIXd_to_L
    res_7_atIXd res_7_atIXd_to_A set_0_atIXd_to_B set_0_atIXd_to_C set_0_atIXd_to_D set_0_atIXd_to_E set_0_atIXd_to_H set_0_atIXd_to_L
    set_0_atIXd set_0_atIXd_to_A set_1_atIXd_to_B set_1_atIXd_to_C set_1_atIXd_to_D set_1_atIXd_to_E set_1_atIXd_to_H set_1_atIXd_to_L
    set_1_atIXd set_1_atIXd_to_A set_2_atIXd_to_B set_2_atIXd_to_C set_2_atIXd_to_D set_2_atIXd_to_E set_2_atIXd_to_H set_2_atIXd_to_L
    set_2_atIXd set_2_atIXd_to_A set_3_atIXd_to_B set_3_atIXd_to_C set_3_atIXd_to_D set_3_atIXd_to_E set_3_atIXd_to_H set_3_atIXd_to_L
    set_3_atIXd set_3_atIXd_to_A set_4_atIXd_to_B set_4_atIXd_to_C set_4_atIXd_to_D set_4_atIXd_to_E set_4_atIXd_to_H set_4_atIXd_to_L
    set_4_atIXd set_4_atIXd_to_A set_5_atIXd_to_B set_5_atIXd_to_C set_5_atIXd_to_D set_5_atIXd_to_E set_5_atIXd_to_H set_5_atIXd_to_L
    set_5_atIXd set_5_atIXd_to_A set_6_atIXd_to_B set_6_atIXd_to_C set_6_atIXd_to_D set_6_atIXd_to_E set_6_atIXd_to_H set_6_atIXd_to_L
    set_6_atIXd set_6_atIXd_to_A set_7_atIXd_to_B set_7_atIXd_to_C set_7_atIXd_to_D set_7_atIXd_to_E set_7_atIXd_to_H set_7_atIXd_to_L
    set_7_atIXd set_7_atIXd_to_A pop_IX ex_atSP_IX push_IX jp_atIX ld_SP_IX add_IY_BC add_IY_DE ld_IY_nn ld_atnn_IY inc_IY inc_IYH dec_IYH
    ld_IYH_n add_IY_IY ld_IY_atnn dec_IY inc_IYL dec_IYL ld_IYL_n inc_atIYd dec_atIYd ld_atIYd_n add_IY_SP ld_B_IYH ld_B_IYL ld_B_atIYd
    ld_C_IYH ld_C_IYL ld_C_atIYd ld_D_IYH ld_D_IYL ld_D_atIYd ld_E_IYH ld_E_IYL ld_E_atIYd ld_IYH_B ld_IYH_C ld_IYH_D ld_IYH_E ld_IYH_IYH
    ld_IYH_IYL ld_H_atIYd ld_IYH_A ld_IYL_B ld_IYL_C ld_IYL_D ld_IYL_E ld_IYL_IYH ld_IYL_IYL ld_L_atIYd ld_IYL_A ld_atIYd_B ld_atIYd_C
    ld_atIYd_D ld_atIYd_E ld_atIYd_H ld_atIYd_L ld_atIYd_A ld_A_IYH ld_A_IYL ld_A_atIYd add_A_IYH add_A_IYL add_A_atIYd adc_A_IYH
    adc_A_IYL adc_A_atIYd sub_IYH sub_IYL sub_atIYd sbc_A_IYH sbc_A_IYL sbc_A_atIYd and_IYH and_IYL and_atIYd xor_IYH xor_IYL xor_atIYd
    or_IYH or_IYL or_atIYd cp_IYH cp_IYL cp_atIYd rlc_atIYd_to_B rlc_atIYd_to_C rlc_atIYd_to_D rlc_atIYd_to_E rlc_atIYd_to_H
    rlc_atIYd_to_L rlc_atIYd rlc_atIYd_to_A rrc_atIYd_to_B rrc_atIYd_to_C rrc_atIYd_to_D rrc_atIYd_to_E rrc_atIYd_to_H rrc_atIYd_to_L
    rrc_atIYd rrc_atIYd_to_A rl_atIYd_to_B rl_atIYd_to_C rl_atIYd_to_D rl_atIYd_to_E rl_atIYd_to_H rl_atIYd_to_L rl_atIYd rl_atIYd_to_A
    rr_atIYd_to_B rr_atIYd_to_C rr_atIYd_to_D rr_atIYd_to_E rr_atIYd_to_H rr_atIYd_to_L rr_atIYd rr_atIYd_to_A sla_atIYd_to_B
    sla_atIYd_to_C sla_atIYd_to_D sla_atIYd_to_E sla_atIYd_to_H sla_atIYd_to_L sla_atIYd sla_atIYd_to_A sra_atIYd_to_B sra_atIYd_to_C
    sra_atIYd_to_D sra_atIYd_to_E sra_atIYd_to_H sra_atIYd_to_L sra_atIYd sra_atIYd_to_A sll_atIYd_to_B sll_atIYd_to_C sll_atIYd_to_D
    sll_atIYd_to_E sll_atIYd_to_H sll_atIYd_to_L sll_atIYd sll_atIYd_to_A srl_atIYd_to_B srl_atIYd_to_C srl_atIYd_to_D srl_atIYd_to_E
    srl_atIYd_to_H srl_atIYd_to_L srl_atIYd srl_atIYd_to_A bit_0_atIYd bit_1_atIYd bit_2_atIYd bit_3_atIYd bit_4_atIYd bit_5_atIYd
    bit_6_atIYd bit_7_atIYd res_0_atIYd_to_B res_0_atIYd_to_C res_0_atIYd_to_D res_0_atIYd_to_E res_0_atIYd_to_H res_0_atIYd_to_L
    res_0_atIYd res_0_atIYd_to_A res_1_atIYd_to_B res_1_atIYd_to_C res_1_atIYd_to_D res_1_atIYd_to_E res_1_atIYd_to_H res_1_atIYd_to_L
    res_1_atIYd res_1_atIYd_to_A res_2_atIYd_to_B res_2_atIYd_to_C res_2_atIYd_to_D res_2_atIYd_to_E res_2_atIYd_to_H res_2_atIYd_to_L
    res_2_atIYd res_2_atIYd_to_A res_3_atIYd_to_B res_3_atIYd_to_C res_3_atIYd_to_D res_3_atIYd_to_E res_3_atIYd_to_H res_3_atIYd_to_L
    res_3_atIYd res_3_atIYd_to_A res_4_atIYd_to_B res_4_atIYd_to_C res_4_atIYd_to_D res_4_atIYd_to_E res_4_atIYd_to_H res_4_atIYd_to_L
    res_4_atIYd res_4_atIYd_to_A res_5_atIYd_to_B res_5_atIYd_to_C res_5_atIYd_to_D res_5_atIYd_to_E res_5_atIYd_to_H res_5_atIYd_to_L
    res_5_atIYd res_5_atIYd_to_A res_6_atIYd_to_B res_6_atIYd_to_C res_6_atIYd_to_D res_6_atIYd_to_E res_6_atIYd_to_H res_6_atIYd_to_L
    res_6_atIYd res_6_atIYd_to_A res_7_atIYd_to_B res_7_atIYd_to_C res_7_atIYd_to_D res_7_atIYd_to_E res_7_atIYd_to_H res_7_atIYd_to_L
    res_7_atIYd res_7_atIYd_to_A set_0_atIYd_to_B set_0_atIYd_to_C set_0_atIYd_to_D set_0_atIYd_to_E set_0_atIYd_to_H set_0_atIYd_to_L
    set_0_atIYd set_0_atIYd_to_A set_1_atIYd_to_B set_1_atIYd_to_C set_1_atIYd_to_D set_1_atIYd_to_E set_1_atIYd_to_H set_1_atIYd_to_L
    set_1_atIYd set_1_atIYd_to_A set_2_atIYd_to_B set_2_atIYd_to_C set_2_atIYd_to_D set_2_atIYd_to_E set_2_atIYd_to_H set_2_atIYd_to_L
    set_2_atIYd set_2_atIYd_to_A set_3_atIYd_to_B set_3_atIYd_to_C set_3_atIYd_to_D set_3_atIYd_to_E set_3_atIYd_to_H set_3_atIYd_to_L
    set_3_atIYd set_3_atIYd_to_A set_4_atIYd_to_B set_4_atIYd_to_C set_4_atIYd_to_D set_4_atIYd_to_E set_4_atIYd_to_H set_4_atIYd_to_L
    set_4_atIYd set_4_atIYd_to_A set_5_atIYd_to_B set_5_atIYd_to_C set_5_atIYd_to_D set_5_atIYd_to_E set_5_atIYd_to_H set_5_atIYd_to_L
    set_5_atIYd set_5_atIYd_to_A set_6_atIYd_to_B set_6_atIYd_to_C set_6_atIYd_to_D set_6_atIYd_to_E set_6_atIYd_to_H set_6_atIYd_to_L
    set_6_atIYd set_6_atIYd_to_A set_7_atIYd_to_B set_7_atIYd_to_C set_7_atIYd_to_D set_7_atIYd_to_E set_7_atIYd_to_H set_7_atIYd_to_L
    set_7_atIYd set_7_atIYd_to_A pop_IY ex_atSP_IY push_IY jp_atIY ld_SP_IY invalid

end Sys2Proof.Laws.HasForm

namespace Sys2Proof.Machine

/-- `Instr.wellFormed` read on forms: only the form of an undefined opcode can fail it (R126). -/
def formWellFormed (g : Form) : Bool :=
  match g with
  | .invalid p op => !definedAfter p op
  | _ => true

/-- The two tables over the constructors, `encode` and `wellFormed`, read through the form's fields. -/
theorem encode_wellFormed_toInstr (g : Form) : encode g.toInstr = formBytes g ∧ g.toInstr.wellFormed = formWellFormed g := by
  cases g with
  | ldRegReg d r => cases d <;> cases r <;> exact ⟨rfl, rfl⟩
  | ldRegImm d n => cases d <;> exact ⟨rfl, rfl⟩
  | ldRegMem d => cases d <;> exact ⟨rfl, rfl⟩
  | ldMemReg r => cases r <;> exact ⟨rfl, rfl⟩
  | ldRegIdx r x d => cases r <;> cases x <;> exact ⟨rfl, rfl⟩
  | ldIdxReg x d r => cases x <;> cases r <;> exact ⟨rfl, rfl⟩
  | ldIdxImm x d n => cases x <;> exact ⟨rfl, rfl⟩
  | ldAccInd p | ldIndAcc p => cases p <;> exact ⟨rfl, rfl⟩
  | ldAccSpecial q | ldSpecialAcc q => cases q <;> exact ⟨rfl, rfl⟩
  | ldRegHalf d x h => cases d <;> cases x <;> cases h <;> exact ⟨rfl, rfl⟩
  | ldHalfReg x h r => cases x <;> cases h <;> cases r <;> exact ⟨rfl, rfl⟩
  | ldHalfHalf x h h' => cases x <;> cases h <;> cases h' <;> exact ⟨rfl, rfl⟩
  | ldHalfImm x h n => cases x <;> cases h <;> exact ⟨rfl, rfl⟩
  | ldPairImm p nn | ldPairAbs p nn | ldAbsPair p nn => cases p <;> exact ⟨rfl, rfl⟩
  | ldIndexImm x nn | ldIndexAbs x nn | ldAbsIndex x nn => cases x <;> exact ⟨rfl, rfl⟩
  | addHl p | adcHl p | sbcHl p | incPair p | decPair p => cases p <;> exact ⟨rfl, rfl⟩
  | ldSpIndex x | pushIndex x | popIndex x | exSpIndex x | incIndex x | decIndex x | jpIndex x => cases x <;> exact ⟨rfl, rfl⟩
  | pushPair q | popPair q => cases q <;> exact ⟨rfl, rfl⟩
  | aluReg op r => cases op <;> cases r <;> exact ⟨rfl, rfl⟩
  | aluMem op => cases op <;> exact ⟨rfl, rfl⟩
  | aluImm op n => cases op <;> exact ⟨rfl, rfl⟩
  | aluHalf op x h => cases op <;> cases x <;> cases h <;> exact ⟨rfl, rfl⟩
  | aluIdx op x d => cases op <;> cases x <;> exact ⟨rfl, rfl⟩
  | incReg r | decReg r | inReg r | outReg r => cases r <;> exact ⟨rfl, rfl⟩
  | incHalf x h | decHalf x h => cases x <;> cases h <;> exact ⟨rfl, rfl⟩
  | incIdx x d | decIdx x d => cases x <;> exact ⟨rfl, rfl⟩
  | addIndex x p => cases x <;> cases p <;> exact ⟨rfl, rfl⟩
  | accRot k | block k => cases k <;> exact ⟨rfl, rfl⟩
  | rotReg k r => cases k <;> cases r <;> exact ⟨rfl, rfl⟩
  | rotMem k => cases k <;> exact ⟨rfl, rfl⟩
  | rotIdx k x d copy => cases k <;> cases x <;> rcases copy with _ | _ | _ <;> exact ⟨rfl, rfl⟩
  | bitReg b r => cases b <;> cases r <;> exact ⟨rfl, rfl⟩
  | bitMem b => cases b <;> exact ⟨rfl, rfl⟩
  | bitIdx b x d z => cases b <;> cases x <;> exact ⟨rfl, rfl⟩
  | chgReg set b r => cases set <;> cases b <;> cases r <;> exact ⟨rfl, rfl⟩
  | chgMem set b => cases set <;> cases b <;> exact ⟨rfl, rfl⟩
  | chgIdx set b x d copy => cases set <;> cases b <;> cases x <;> rcases copy with _ | _ | _ <;> exact ⟨rfl, rfl⟩
  | jpCond cc nn | callCond cc nn => cases cc <;> exact ⟨rfl, rfl⟩
  | jrCond cc e => cases cc <;> exact ⟨rfl, rfl⟩
  | retCond cc => cases cc <;> exact ⟨rfl, rfl⟩
  | rst t => cases t <;> exact ⟨rfl, rfl⟩
  | im m => cases m <;> exact ⟨rfl, rfl⟩
  | _ => exact ⟨rfl, rfl⟩

/-- The bytes of a form's instruction are the form's bytes. -/
theorem encode_toInstr (g : Form) : encode g.toInstr = formBytes g := (encode_wellFormed_toInstr g).1

/-- A form's instruction is well-formed when the form is. -/
theorem wellFormed_toInstr (g : Form) : g.toInstr.wellFormed = formWellFormed g := (encode_wellFormed_toInstr g).2

/-- A form is as long as its bytes. -/
theorem length_eq_length_formBytes (g : Form) : g.length = (formBytes g).length := by
  cases g with
  | ldAccInd p | ldIndAcc p => cases p <;> rfl
  | ldAccSpecial q | ldSpecialAcc q => cases q <;> rfl
  | accRot k => cases k <;> rfl
  | jrCond cc e => cases cc <;> rfl
  | im m => cases m <;> rfl
  | _ => rfl

/-- An instruction has one to four bytes (R110). -/
theorem one_le_length_le_four (g : Form) : 1 ≤ g.length ∧ g.length ≤ 4 := by
  cases g <;> simp only [Form.length] <;> omega

/-- Settles O4, by `encode_toInstr` and `length_eq_length_formBytes`. -/
theorem formsHaveTheirEncodings : Obligations.FormsHaveTheirEncodings :=
  fun g => ⟨encode_toInstr g, length_eq_length_formBytes g⟩

end Sys2Proof.Machine
end

section
/-! Opcode bytes and their fields (R112), and the fields' codes (R113 to R118): each decoding of a code undoes the code. -/

namespace Sys2Proof.Machine

theorem xyz_fields : ∀ o : Byte, xyz (fieldX o) (fieldY o) (fieldZ o) = o := by decide

@[simp] theorem fieldX_xyz : ∀ (x : BitVec 2) (y z : BitVec 3), fieldX (xyz x y z) = x := by decide

@[simp] theorem fieldY_xyz : ∀ (x : BitVec 2) (y z : BitVec 3), fieldY (xyz x y z) = y := by decide

@[simp] theorem fieldZ_xyz : ∀ (x : BitVec 2) (y z : BitVec 3), fieldZ (xyz x y z) = z := by decide

@[simp] theorem fieldX_xpqz : ∀ (x p : BitVec 2) (q : BitVec 1) (z : BitVec 3), fieldX (xpqz x p q z) = x := by decide

/-- An opcode byte by its fields. -/
theorem exists_xyz (o : Byte) : ∃ x y z, o = xyz x y z := ⟨_, _, _, (xyz_fields o).symm⟩

theorem bits2_cases : ∀ x : BitVec 2, x = 0 ∨ x = 1 ∨ x = 2 ∨ x = 3 := by decide

theorem bits3_cases : ∀ y : BitVec 3, y = 0 ∨ y = 1 ∨ y = 2 ∨ y = 3 ∨ y = 4 ∨ y = 5 ∨ y = 6 ∨ y = 7 := by decide

/-- Field y is field p followed by field q (R112). -/
theorem fieldPQ_cases : ∀ y : BitVec 3, ∃ p : BitVec 2, y = p ++ (0 : BitVec 1) ∨ y = p ++ (1 : BitVec 1) := by decide

@[simp] theorem regOfCode_code (r : Reg8) : regOfCode r.code = some r := by cases r <;> rfl

/-- Code 6 is the memory operand (R113). -/
@[simp] theorem regOfCode_six : regOfCode 6 = none := rfl

@[simp] theorem regOfCode_copyCode (c : Option Reg8) : regOfCode (copyCode c) = c := by rcases c with _ | _ | _ <;> rfl

@[simp] theorem copyCode_regOfCode : ∀ c : BitVec 3, copyCode (regOfCode c) = c := by decide

@[simp] theorem aluOfCode_code (op : AluOp) : aluOfCode op.code = op := by cases op <;> rfl

@[simp] theorem rotOfCode_code (k : RotOp) : rotOfCode k.code = k := by cases k <;> rfl

@[simp] theorem code_rotOfCode : ∀ c : BitVec 3, (rotOfCode c).code = c := by decide

@[simp] theorem bitOfCode_code (b : BitNo) : bitOfCode b.code = b := by cases b <;> rfl

@[simp] theorem code_bitOfCode : ∀ c : BitVec 3, (bitOfCode c).code = c := by decide

/-! ## The tables without operands beside their opcode -/

theorem formBytes_x1Form : ∀ y z, formBytes (x1Form (xyz 1 y z)) = [xyz 1 y z] := by decide

theorem formWellFormed_x1Form : ∀ o, formWellFormed (x1Form o) = true := by decide

theorem formBytes_x2Form : ∀ y z, formBytes (x2Form (xyz 2 y z)) = [xyz 2 y z] := by decide

theorem formWellFormed_x2Form : ∀ o, formWellFormed (x2Form o) = true := by decide

theorem formBytes_cbForm : ∀ o, formBytes (cbForm o) = [0xCB, o] := by decide

theorem formWellFormed_cbForm : ∀ o, formWellFormed (cbForm o) = true := by decide

theorem formBytes_xycbForm (i : Index) (d o : Byte) : formBytes (xycbForm i d o) = [i.byte, 0xCB, d, o] := by
  obtain ⟨x, y, z, rfl⟩ := exists_xyz o
  obtain rfl | rfl | rfl | rfl := bits2_cases x <;> simp [xycbForm, formBytes]

theorem formWellFormed_xycbForm (i : Index) (d o : Byte) : formWellFormed (xycbForm i d o) = true := by
  unfold xycbForm
  split <;> rfl

end Sys2Proof.Machine
end

section
/-! What the decoder answers, for any fetch: it reads the bytes of a form exactly when it answers that form, and it fails only at a byte
that it cannot fetch (R111, R78). -/

namespace Sys2Proof.Machine

variable {ε : Type} {fetch : Nat → Except ε Byte} {bs : List Byte}

/-- The fetch answers these bytes, from position 0 on. -/
def Reads (fetch : Nat → Except ε Byte) (bs : List Byte) : Prop := ∀ k v, bs[k]? = some v → fetch k = .ok v

theorem reads_nil (fetch : Nat → Except ε Byte) : Reads fetch [] := by
  intro k v h
  simp at h

theorem reads_append_one {v : Byte} (h : Reads fetch bs) (hv : fetch bs.length = .ok v) : Reads fetch (bs ++ [v]) := by
  intro k w hk
  rw [List.getElem?_append] at hk
  split at hk
  · exact h k w hk
  · obtain ⟨hlen, rfl⟩ : k - bs.length = 0 ∧ v = w := by simpa [List.getElem?_singleton] using hk
    rwa [show k = bs.length by omega]

/-- An answer that is faithful to the fetch: a form is well-formed and its bytes are the bytes fetched; an error is the fetch's
own, at the first byte that cannot be fetched, one of the first four. -/
def Faithful (fetch : Nat → Except ε Byte) (x : Except ε Form) : Prop :=
  match x with
  | .ok g => formWellFormed g = true ∧ Reads fetch (formBytes g)
  | .error e => ∃ k, k < 4 ∧ fetch k = .error e ∧ ∀ j, j < k → ∃ v, fetch j = .ok v

theorem faithful_ok {g : Form} (h : Reads fetch bs) (hg : formBytes g = bs) (hw : formWellFormed g = true) : Faithful fetch (.ok g) :=
  ⟨hw, hg ▸ h⟩

/-- Fetching the byte after those read so far. -/
theorem faithful_fetch {k : Nat} {f : Byte → Except ε Form} (h : Reads fetch bs) (hk : bs.length = k) (h4 : k < 4)
    (hf : ∀ v, Reads fetch (bs ++ [v]) → Faithful fetch (f v)) : Faithful fetch (fetch k >>= f) := by
  subst hk
  cases hv : fetch bs.length with
  | ok v => exact hf v (reads_append_one h hv)
  | error e => exact ⟨_, h4, hv, fun j hj => ⟨_, h j _ (List.getElem?_eq_getElem hj)⟩⟩

/-- Fetching a 16-bit immediate after the bytes read so far. -/
theorem faithful_imm16 {k : Nat} {f : Word → Except ε Form} (h : Reads fetch bs) (hk : bs.length = k) (h3 : k < 3)
    (hf : ∀ nn, Reads fetch (bs ++ [lo nn, hi nn]) → Faithful fetch (f nn)) : Faithful fetch (fetchImm16 fetch k >>= f) := by
  have hbytes : fetchImm16 fetch k >>= f = fetch k >>= fun l => fetch (k + 1) >>= fun u => f (join u l) := by
    simp only [fetchImm16, bind_assoc, pure_bind]
  rw [hbytes]
  refine faithful_fetch h hk (by omega) fun l hl => faithful_fetch hl (by simp [hk]) (by omega) fun u hu => hf _ ?_
  simpa using hu

/-! ## Opcodes without operands

Most entries of the ED and the DD/FD table read nothing after the opcode. What such an entry answers is the same for every fetch, so it
is found by running the decoder on a fetch that answers nothing. -/

/-- A fetch that answers no byte. -/
def noOperand : Nat → Except Unit Byte := fun _ => .error ()

theorem decodeED_of_noOperand {o : Byte} {g : Form} (h : decodeED noOperand o = .ok g) : decodeED fetch o = .ok g := by
  revert h
  unfold decodeED
  split <;> dsimp only <;> repeat' split
  all_goals intro h; cases h <;> rfl

theorem decodeXY_of_noOperand {x : Index} {o : Byte} {g : Form} (h : decodeXY noOperand x o = .ok g) :
    decodeXY fetch x o = .ok g := by
  revert h
  unfold decodeXY
  split <;> dsimp only <;> repeat' split
  all_goals intro h; cases h <;> rfl

/-- The answer is a well-formed form with exactly these bytes. -/
def answersBytes (bs : List Byte) (x : Except Unit Form) : Bool :=
  match x with
  | .ok g => formWellFormed g && formBytes g == bs
  | .error _ => false

theorem answersBytes_eq_true {x : Except Unit Form} (h : answersBytes bs x = true) :
    ∃ g, x = .ok g ∧ formBytes g = bs ∧ formWellFormed g = true := by
  cases x with
  | ok g =>
    obtain ⟨hw, hg⟩ : formWellFormed g = true ∧ formBytes g = bs := by simpa [answersBytes] using h
    exact ⟨g, rfl, hg, hw⟩
  | error e => cases h

/-- The ED opcodes that take a word; every other takes no operand (R124). -/
theorem decodeED_operand_cases : ∀ o : Byte, answersBytes [0xED, o] (decodeED noOperand o) = true
    ∨ o ∈ [0x43, 0x4B, 0x53, 0x5B, 0x63, 0x6B, 0x73, 0x7B] := by decide

/-- The DD and FD opcodes that take two bytes, a word or a byte; every other takes no operand (R125). -/
theorem decodeXY_operand_cases (x : Index) : ∀ o : Byte, o ≠ 0xCB → answersBytes [x.byte, o] (decodeXY noOperand x o) = true
    ∨ o = 0x36 ∨ o ∈ [0x21, 0x22, 0x2A]
    ∨ o ∈ [0x26, 0x2E, 0x34, 0x35, 0x46, 0x4E, 0x56, 0x5E, 0x66, 0x6E, 0x7E, 0x70, 0x71, 0x72, 0x73, 0x74, 0x75, 0x77,
        0x86, 0x8E, 0x96, 0x9E, 0xA6, 0xAE, 0xB6, 0xBE] := by
  cases x <;> decide

theorem decodeED_undefined : ∀ o : Byte, definedAfter .ED o = false → decodeED noOperand o = .ok (.invalid .ED o) := by decide

theorem decodeXY_undefined (x : Index) : ∀ o : Byte, definedAfter x.opPrefix o = false →
    decodeXY noOperand x o = .ok (.invalid x.opPrefix o) := by
  cases x <;> decide

/-! ## Whatever is answered was read -/

theorem decodeED_faithful {o : Byte} (h : Reads fetch [0xED, o]) : Faithful fetch (decodeED fetch o) := by
  obtain hnone | hword := decodeED_operand_cases o
  · obtain ⟨g, hg, hbytes, hw⟩ := answersBytes_eq_true hnone
    rw [decodeED_of_noOperand hg]
    exact faithful_ok h hbytes hw
  · fin_cases hword <;> exact faithful_imm16 h rfl (by decide) fun _ hnn => faithful_ok hnn rfl rfl

theorem decodeXY_faithful {x : Index} {o : Byte} (h : Reads fetch [x.byte, o]) (hcb : o ≠ 0xCB) :
    Faithful fetch (decodeXY fetch x o) := by
  obtain hnone | rfl | hword | hbyte := decodeXY_operand_cases x o hcb
  · obtain ⟨g, hg, hbytes, hw⟩ := answersBytes_eq_true hnone
    rw [decodeXY_of_noOperand hg]
    exact faithful_ok h hbytes hw
  · exact faithful_fetch h rfl (by decide) fun _ hd => faithful_fetch hd rfl (by decide) fun _ hn => faithful_ok hn rfl rfl
  · fin_cases hword <;> exact faithful_imm16 h rfl (by decide) fun _ hnn => faithful_ok hnn rfl rfl
  · fin_cases hbyte <;> exact faithful_fetch h rfl (by decide) fun _ hd => faithful_ok hd rfl rfl

theorem decodeIndexed_faithful {x : Index} (h : Reads fetch [x.byte]) : Faithful fetch (decodeIndexed fetch x) := by
  refine faithful_fetch h rfl (by decide) fun o ho => ?_
  split
  · next hcb =>
    subst hcb
    exact faithful_fetch ho rfl (by decide) fun d hd => faithful_fetch hd rfl (by decide) fun sub hsub =>
      faithful_ok hsub (formBytes_xycbForm x d sub) (formWellFormed_xycbForm x d sub)
  · next hcb => exact decodeXY_faithful ho hcb

/-- The rows x = 0 of the primary table, column by column (field z). -/
theorem decodeX0_faithful {y z : BitVec 3} (h : Reads fetch [xyz 0 y z]) : Faithful fetch (decodeX0 fetch (xyz 0 y z)) := by
  obtain rfl | rfl | rfl | rfl | rfl | rfl | rfl | rfl := bits3_cases z
  · obtain rfl | rfl | rfl | rfl | rfl | rfl | rfl | rfl := bits3_cases y
    iterate 2 exact faithful_ok h rfl rfl
    all_goals exact faithful_fetch h rfl (by decide) fun _ he => faithful_ok he rfl rfl
  · obtain ⟨p, rfl | rfl⟩ := fieldPQ_cases y <;> obtain rfl | rfl | rfl | rfl := bits2_cases p
    iterate 4 exact faithful_imm16 h rfl (by decide) fun _ hnn => faithful_ok hnn rfl rfl
    all_goals exact faithful_ok h rfl rfl
  · obtain rfl | rfl | rfl | rfl | rfl | rfl | rfl | rfl := bits3_cases y
    iterate 4 exact faithful_ok h rfl rfl
    all_goals exact faithful_imm16 h rfl (by decide) fun _ hnn => faithful_ok hnn rfl rfl
  iterate 3
    · obtain rfl | rfl | rfl | rfl | rfl | rfl | rfl | rfl := bits3_cases y <;> exact faithful_ok h rfl rfl
  · obtain rfl | rfl | rfl | rfl | rfl | rfl | rfl | rfl := bits3_cases y <;>
      exact faithful_fetch h rfl (by decide) fun _ hn => faithful_ok hn rfl rfl
  · obtain rfl | rfl | rfl | rfl | rfl | rfl | rfl | rfl := bits3_cases y <;> exact faithful_ok h rfl rfl

/-- The rows x = 3 of the primary table, column by column (field z); the four prefixed tables stand in columns 3 and 5. -/
theorem decodeX3_faithful {y z : BitVec 3} (h : Reads fetch [xyz 3 y z]) : Faithful fetch (decodeX3 fetch (xyz 3 y z)) := by
  obtain rfl | rfl | rfl | rfl | rfl | rfl | rfl | rfl := bits3_cases z
  iterate 2
    · obtain rfl | rfl | rfl | rfl | rfl | rfl | rfl | rfl := bits3_cases y <;> exact faithful_ok h rfl rfl
  · obtain rfl | rfl | rfl | rfl | rfl | rfl | rfl | rfl := bits3_cases y <;>
      exact faithful_imm16 h rfl (by decide) fun _ hnn => faithful_ok hnn rfl rfl
  · obtain rfl | rfl | rfl | rfl | rfl | rfl | rfl | rfl := bits3_cases y
    · exact faithful_imm16 h rfl (by decide) fun _ hnn => faithful_ok hnn rfl rfl
    · exact faithful_fetch h rfl (by decide) fun o ho => faithful_ok ho (formBytes_cbForm o) (formWellFormed_cbForm o)
    iterate 2 exact faithful_fetch h rfl (by decide) fun _ hn => faithful_ok hn rfl rfl
    all_goals exact faithful_ok h rfl rfl
  · obtain rfl | rfl | rfl | rfl | rfl | rfl | rfl | rfl := bits3_cases y <;>
      exact faithful_imm16 h rfl (by decide) fun _ hnn => faithful_ok hnn rfl rfl
  · obtain ⟨p, rfl | rfl⟩ := fieldPQ_cases y <;> obtain rfl | rfl | rfl | rfl := bits2_cases p
    iterate 4 exact faithful_ok h rfl rfl
    · exact faithful_imm16 h rfl (by decide) fun _ hnn => faithful_ok hnn rfl rfl
    · exact decodeIndexed_faithful (x := .IX) h
    · exact faithful_fetch h rfl (by decide) fun _ ho => decodeED_faithful ho
    · exact decodeIndexed_faithful (x := .IY) h
  · obtain rfl | rfl | rfl | rfl | rfl | rfl | rfl | rfl := bits3_cases y <;>
      exact faithful_fetch h rfl (by decide) fun _ hn => faithful_ok hn rfl rfl
  · obtain rfl | rfl | rfl | rfl | rfl | rfl | rfl | rfl := bits3_cases y <;> exact faithful_ok h rfl rfl

theorem decodeWith_faithful (fetch : Nat → Except ε Byte) : Faithful fetch (decodeWith fetch) := by
  refine faithful_fetch (reads_nil fetch) rfl (by decide) fun o ho => ?_
  obtain ⟨x, y, z, rfl⟩ := exists_xyz o
  rw [fieldX_xyz]
  obtain rfl | rfl | rfl | rfl := bits2_cases x
  · exact decodeX0_faithful ho
  · exact faithful_ok ho (formBytes_x1Form y z) (formWellFormed_x1Form _)
  · exact faithful_ok ho (formBytes_x2Form y z) (formWellFormed_x2Form _)
  · exact decodeX3_faithful ho

/-! ## Whatever is read is answered: which table reads the bytes -/

theorem fetch_bind {α : Type} {k : Nat} {v : Byte} (h : fetch k = .ok v) (f : Byte → Except ε α) : (fetch k >>= f) = f v := by
  rw [h]; rfl

theorem fetchImm16_bind {α : Type} {k : Nat} {nn : Word} (hl : fetch k = .ok (lo nn)) (hh : fetch (k + 1) = .ok (hi nn))
    (f : Word → Except ε α) : (fetchImm16 fetch k >>= f) = f nn := by
  simp only [fetchImm16, hl, hh, bind, Except.bind, pure, Except.pure, join_hi_lo]

theorem decodeWith_x0 {o : Byte} (h0 : fetch 0 = .ok o) (hx : fieldX o = 0) : decodeWith fetch = decodeX0 fetch o := by
  rw [decodeWith, fetch_bind h0, hx]; rfl

theorem decodeWith_x1 {o : Byte} (h0 : fetch 0 = .ok o) (hx : fieldX o = 1) : decodeWith fetch = .ok (x1Form o) := by
  rw [decodeWith, fetch_bind h0, hx]; rfl

theorem decodeWith_x2 {o : Byte} (h0 : fetch 0 = .ok o) (hx : fieldX o = 2) : decodeWith fetch = .ok (x2Form o) := by
  rw [decodeWith, fetch_bind h0, hx]; rfl

theorem decodeWith_x3 {o : Byte} (h0 : fetch 0 = .ok o) (hx : fieldX o = 3) : decodeWith fetch = decodeX3 fetch o := by
  rw [decodeWith, fetch_bind h0, hx]; rfl

theorem decodeWith_cb {o : Byte} (h0 : fetch 0 = .ok 0xCB) (h1 : fetch 1 = .ok o) : decodeWith fetch = .ok (cbForm o) :=
  (decodeWith_x3 h0 rfl).trans (fetch_bind h1 _)

theorem decodeWith_ed {o : Byte} (h0 : fetch 0 = .ok 0xED) (h1 : fetch 1 = .ok o) : decodeWith fetch = decodeED fetch o :=
  (decodeWith_x3 h0 rfl).trans (fetch_bind h1 _)

theorem decodeWith_indexed {x : Index} (h0 : fetch 0 = .ok x.byte) : decodeWith fetch = decodeIndexed fetch x := by
  cases x <;> exact decodeWith_x3 h0 rfl

theorem decodeWith_xycb {x : Index} {d sub : Byte} (h0 : fetch 0 = .ok x.byte) (h1 : fetch 1 = .ok 0xCB) (h2 : fetch 2 = .ok d)
    (h3 : fetch 3 = .ok sub) : decodeWith fetch = .ok (xycbForm x d sub) := by
  rw [decodeWith_indexed h0, decodeIndexed, fetch_bind h1, if_pos rfl, fetch_bind h2, fetch_bind h3]; rfl

/-- The DD/FD table is read at every opcode but 0xCB, where its answer would not be well-formed. -/
theorem decodeWith_xy {x : Index} {o : Byte} {g : Form} (h0 : fetch 0 = .ok x.byte) (h1 : fetch 1 = .ok o)
    (hw : formWellFormed g = true) (h : decodeXY fetch x o = .ok g) : decodeWith fetch = .ok g := by
  rw [decodeWith_indexed h0, decodeIndexed, fetch_bind h1]
  split
  · next hcb =>
    subst hcb
    cases x <;> (cases h; exact absurd hw (by decide))
  · exact h

/-- A well-formed form whose bytes are fetched is what the decoder answers, form by form through the table its bytes stand in. -/
theorem decodeWith_of_reads {g : Form} (hw : formWellFormed g = true) (h : Reads fetch (formBytes g)) :
    decodeWith fetch = .ok g := by
  cases g with
  | ldRegReg d r => rw [decodeWith_x1 (h 0 _ rfl) (fieldX_xyz ..)]; simp [x1Form]
  | ldRegMem d => rw [decodeWith_x1 (h 0 _ rfl) (fieldX_xyz ..)]; cases d <;> rfl
  | ldMemReg r => rw [decodeWith_x1 (h 0 _ rfl) (fieldX_xyz ..)]; cases r <;> rfl
  | halt => exact decodeWith_x1 (h 0 _ rfl) rfl
  | aluReg op r => rw [decodeWith_x2 (h 0 _ rfl) (fieldX_xyz ..)]; simp [x2Form]
  | aluMem op => rw [decodeWith_x2 (h 0 _ rfl) (fieldX_xyz ..)]; cases op <;> rfl
  | ldRegImm d n => rw [decodeWith_x0 (h 0 _ rfl) (fieldX_xyz ..)]; cases d <;> exact fetch_bind (h 1 _ rfl) _
  | ldMemImm n => exact (decodeWith_x0 (h 0 _ rfl) rfl).trans (fetch_bind (h 1 _ rfl) _)
  | ldAccInd p | ldIndAcc p => cases p <;> exact decodeWith_x0 (h 0 _ rfl) rfl
  | ldAccAbs nn | ldAbsAcc nn | ldHlAbs nn | ldAbsHl nn =>
    exact (decodeWith_x0 (h 0 _ rfl) rfl).trans (fetchImm16_bind (h 1 _ rfl) (h 2 _ rfl) _)
  | ldPairImm p nn =>
    rw [decodeWith_x0 (h 0 _ rfl) (fieldX_xpqz ..)]; cases p <;> exact fetchImm16_bind (h 1 _ rfl) (h 2 _ rfl) _
  | addHl p | incPair p | decPair p => rw [decodeWith_x0 (h 0 _ rfl) (fieldX_xpqz ..)]; cases p <;> rfl
  | incReg r | decReg r => rw [decodeWith_x0 (h 0 _ rfl) (fieldX_xyz ..)]; cases r <;> rfl
  | incMem | decMem | daa | cpl | ccf | scf | exAf | nop => exact decodeWith_x0 (h 0 _ rfl) rfl
  | accRot k => cases k <;> exact decodeWith_x0 (h 0 _ rfl) rfl
  | jr e | djnz e => exact (decodeWith_x0 (h 0 _ rfl) rfl).trans (fetch_bind (h 1 _ rfl) _)
  | jrCond cc e => cases cc <;> exact (decodeWith_x0 (h 0 _ rfl) rfl).trans (fetch_bind (h 1 _ rfl) _)
  | ldSpHl | exDeHl | exx | exSpHl | jpHl | ret | di | ei => exact decodeWith_x3 (h 0 _ rfl) rfl
  | pushPair q | popPair q => rw [decodeWith_x3 (h 0 _ rfl) (fieldX_xpqz ..)]; cases q <;> rfl
  | aluImm op n => rw [decodeWith_x3 (h 0 _ rfl) (fieldX_xyz ..)]; cases op <;> exact fetch_bind (h 1 _ rfl) _
  | jp nn | call nn => exact (decodeWith_x3 (h 0 _ rfl) rfl).trans (fetchImm16_bind (h 1 _ rfl) (h 2 _ rfl) _)
  | jpCond cc nn | callCond cc nn =>
    rw [decodeWith_x3 (h 0 _ rfl) (fieldX_xyz ..)]; cases cc <;> exact fetchImm16_bind (h 1 _ rfl) (h 2 _ rfl) _
  | retCond cc => rw [decodeWith_x3 (h 0 _ rfl) (fieldX_xyz ..)]; cases cc <;> rfl
  | rst t => rw [decodeWith_x3 (h 0 _ rfl) (fieldX_xyz ..)]; cases t <;> rfl
  | inAcc n | outAcc n => exact (decodeWith_x3 (h 0 _ rfl) rfl).trans (fetch_bind (h 1 _ rfl) _)
  | rotReg k r | bitReg b r => rw [decodeWith_cb (h 0 _ rfl) (h 1 _ rfl)]; simp [cbForm]
  | rotMem k => rw [decodeWith_cb (h 0 _ rfl) (h 1 _ rfl)]; cases k <;> rfl
  | bitMem b => rw [decodeWith_cb (h 0 _ rfl) (h 1 _ rfl)]; cases b <;> rfl
  | chgReg set b r => rw [decodeWith_cb (h 0 _ rfl) (h 1 _ rfl)]; cases set <;> simp [cbForm]
  | chgMem set b => rw [decodeWith_cb (h 0 _ rfl) (h 1 _ rfl)]; cases set <;> cases b <;> rfl
  | rotIdx k x d copy => rw [decodeWith_xycb (h 0 _ rfl) (h 1 _ rfl) (h 2 _ rfl) (h 3 _ rfl)]; simp [xycbForm]
  | bitIdx b x d z => rw [decodeWith_xycb (h 0 _ rfl) (h 1 _ rfl) (h 2 _ rfl) (h 3 _ rfl)]; simp [xycbForm]
  | chgIdx set b x d copy =>
    rw [decodeWith_xycb (h 0 _ rfl) (h 1 _ rfl) (h 2 _ rfl) (h 3 _ rfl)]; cases set <;> simp [xycbForm]
  | ldAccSpecial q | ldSpecialAcc q => cases q <;> exact decodeWith_ed (h 0 _ rfl) (h 1 _ rfl)
  | ldPairAbs p nn | ldAbsPair p nn =>
    rw [decodeWith_ed (h 0 _ rfl) (h 1 _ rfl)]; cases p <;> exact fetchImm16_bind (h 2 _ rfl) (h 3 _ rfl) _
  | adcHl p | sbcHl p => rw [decodeWith_ed (h 0 _ rfl) (h 1 _ rfl)]; cases p <;> rfl
  | neg | rld | rrd | reti | retn => exact decodeWith_ed (h 0 _ rfl) (h 1 _ rfl)
  | block k => rw [decodeWith_ed (h 0 _ rfl) (h 1 _ rfl)]; cases k <;> rfl
  | inReg r | outReg r => rw [decodeWith_ed (h 0 _ rfl) (h 1 _ rfl)]; cases r <;> rfl
  | im m => cases m <;> exact decodeWith_ed (h 0 _ rfl) (h 1 _ rfl)
  | ldRegIdx r x d | ldIdxReg x d r =>
    exact decodeWith_xy (h 0 _ rfl) (h 1 _ rfl) hw (by cases r <;> exact fetch_bind (h 2 _ rfl) _)
  | ldIdxImm x d n =>
    exact decodeWith_xy (h 0 _ rfl) (h 1 _ rfl) hw ((fetch_bind (h 2 _ rfl) _).trans (fetch_bind (h 3 _ rfl) _))
  | ldRegHalf d x b => exact decodeWith_xy (h 0 _ rfl) (h 1 _ rfl) hw (by cases d <;> cases b <;> rfl)
  | ldHalfReg x b r => exact decodeWith_xy (h 0 _ rfl) (h 1 _ rfl) hw (by cases b <;> cases r <;> rfl)
  | ldHalfHalf x b c => exact decodeWith_xy (h 0 _ rfl) (h 1 _ rfl) hw (by cases b <;> cases c <;> rfl)
  | ldHalfImm x b n => exact decodeWith_xy (h 0 _ rfl) (h 1 _ rfl) hw (by cases b <;> exact fetch_bind (h 2 _ rfl) _)
  | ldIndexImm x nn | ldIndexAbs x nn | ldAbsIndex x nn =>
    exact decodeWith_xy (h 0 _ rfl) (h 1 _ rfl) hw (fetchImm16_bind (h 2 _ rfl) (h 3 _ rfl) _)
  | ldSpIndex x | pushIndex x | popIndex x | exSpIndex x | incIndex x | decIndex x | jpIndex x =>
    exact decodeWith_xy (h 0 _ rfl) (h 1 _ rfl) hw rfl
  | aluHalf op x b => exact decodeWith_xy (h 0 _ rfl) (h 1 _ rfl) hw (by cases op <;> cases b <;> rfl)
  | aluIdx op x d => exact decodeWith_xy (h 0 _ rfl) (h 1 _ rfl) hw (by cases op <;> exact fetch_bind (h 2 _ rfl) _)
  | incHalf x b | decHalf x b => exact decodeWith_xy (h 0 _ rfl) (h 1 _ rfl) hw (by cases b <;> rfl)
  | incIdx x d | decIdx x d => exact decodeWith_xy (h 0 _ rfl) (h 1 _ rfl) hw (fetch_bind (h 2 _ rfl) _)
  | addIndex x p => exact decodeWith_xy (h 0 _ rfl) (h 1 _ rfl) hw (by cases p <;> rfl)
  | invalid p op =>
    have hundef : definedAfter p op = false := by simpa [formWellFormed] using hw
    cases p with
    | ED => exact (decodeWith_ed (h 0 _ rfl) (h 1 _ rfl)).trans (decodeED_of_noOperand (decodeED_undefined op hundef))
    | DD => exact decodeWith_xy (x := .IX) (h 0 _ rfl) (h 1 _ rfl) hw (decodeXY_of_noOperand (decodeXY_undefined .IX op hundef))
    | FD => exact decodeWith_xy (x := .IY) (h 0 _ rfl) (h 1 _ rfl) hw (decodeXY_of_noOperand (decodeXY_undefined .IY op hundef))

/-- The decoder answers a form exactly when the form is well-formed and its bytes are those fetched. -/
theorem decodeWith_eq_ok_iff {g : Form} : decodeWith fetch = .ok g ↔ formWellFormed g = true ∧ Reads fetch (formBytes g) := by
  constructor
  · intro h
    have hfaithful := decodeWith_faithful fetch
    rwa [h] at hfaithful
  · rintro ⟨hw, hreads⟩
    exact decodeWith_of_reads hw hreads

/-- The decoder fails only where the fetch does: at the first byte that cannot be fetched, one of the first four. -/
theorem decodeWith_eq_error {e : ε} (h : decodeWith fetch = .error e) :
    ∃ k, k < 4 ∧ fetch k = .error e ∧ ∀ j, j < k → ∃ v, fetch j = .ok v := by
  have hfaithful := decodeWith_faithful fetch
  rwa [h] at hfaithful

end Sys2Proof.Machine
end

section
/-! The decoder over a list of bytes: both directions of the round trip, and which opcodes are defined. -/

namespace Sys2Proof.Machine

/-- A list answers exactly the bytes at its head. -/
theorem reads_listFetch_iff {bs bytes : List Byte} : Reads (listFetch bytes) bs ↔ bs <+: bytes := by
  have hfetch : ∀ k v, listFetch bytes k = .ok v ↔ bytes[k]? = some v := by
    intro k v
    unfold listFetch
    split <;> simp_all
  simp only [Reads, hfetch, List.prefix_iff_getElem?]
  exact ⟨fun h k hk => h k _ (List.getElem?_eq_getElem hk), fun h k v hv => by
    obtain ⟨hk, rfl⟩ := List.getElem?_eq_some_iff.mp hv
    exact h k hk⟩

theorem decodeForm_eq_ok_iff {bytes : List Byte} {g : Form} :
    decodeForm bytes = .ok g ↔ formWellFormed g = true ∧ formBytes g <+: bytes := by
  rw [decodeForm, decodeWith_eq_ok_iff, reads_listFetch_iff]

/-- Decoding an instruction is decoding its form. -/
theorem decode_eq_ok_iff {bytes : List Byte} {i : Instr} {n : Nat} :
    decode bytes = .ok (i, n) ↔ ∃ g, decodeForm bytes = .ok g ∧ g.toInstr = i ∧ g.length = n := by
  unfold decode
  split <;> simp_all

/-- Settles O1: an instruction is that of a form, and the form's bytes decode to it (`decodeWith_of_reads`). -/
theorem encodeThenDecode : Obligations.EncodeThenDecode := by
  intro i rest hw
  obtain ⟨g, rfl⟩ := Laws.HasForm.every i
  rw [wellFormed_toInstr] at hw
  rw [encode_toInstr, ← length_eq_length_formBytes]
  exact decode_eq_ok_iff.mpr ⟨g, decodeForm_eq_ok_iff.mpr ⟨hw, List.prefix_append _ _⟩, rfl, rfl⟩

/-- Settles O2: a form that is answered is well-formed and its bytes stand at the head of the list (`decodeWith_faithful`). -/
theorem decodeThenEncode : Obligations.DecodeThenEncode := by
  intro bytes i n h
  obtain ⟨g, hg, rfl, rfl⟩ := decode_eq_ok_iff.mp h
  obtain ⟨hw, hhead⟩ := decodeForm_eq_ok_iff.mp hg
  rw [wellFormed_toInstr, encode_toInstr]
  have hlen := length_eq_length_formBytes g
  exact ⟨hw, hlen ▸ List.prefix_iff_eq_take.mp hhead, hlen ▸ hhead.length_le, one_le_length_le_four g⟩

/-- Four bytes are enough for any instruction. -/
theorem exists_decodeForm (b0 b1 b2 b3 : Byte) : ∃ g, decodeForm [b0, b1, b2, b3] = .ok g := by
  cases h : decodeForm [b0, b1, b2, b3] with
  | ok g => exact ⟨g, rfl⟩
  | error e =>
    obtain ⟨k, hk, hfail, -⟩ := decodeWith_eq_error h
    interval_cases k <;> cases hfail

/-- The decoder answers an undefined opcode exactly for an undefined opcode after its byte (R126). -/
theorem decodeForm_eq_invalid_iff {b0 b1 b2 b3 op : Byte} {p : OpPrefix} :
    decodeForm [b0, b1, b2, b3] = .ok (.invalid p op) ↔ definedAfter p op = false ∧ p.byte = b0 ∧ op = b1 := by
  rw [decodeForm_eq_ok_iff]
  simp [formWellFormed, formBytes]

theorem opPrefix_byte_injective {p q : OpPrefix} (h : p.byte = q.byte) : p = q := by
  revert h
  cases p <;> cases q <;> decide

/-- Settles O5: four bytes always decode, and to an undefined opcode only as `decodeForm_eq_invalid_iff` says. -/
theorem definedOpcodes : Obligations.DefinedOpcodes := by
  refine ⟨by decide, by decide, ?_, ?_, ?_, ?_⟩
  · intro p op q r g hg
    constructor
    · rintro ⟨p', op', rfl⟩
      obtain ⟨hundef, hp, rfl⟩ := decodeForm_eq_invalid_iff.mp hg
      exact opPrefix_byte_injective hp ▸ hundef
    · intro hundef
      have hinv := decodeForm_eq_invalid_iff (b2 := q) (b3 := r).mpr ⟨hundef, rfl, rfl⟩
      exact ⟨p, op, Except.ok.inj (hg.symm.trans hinv)⟩
  · exact fun p op q r hundef => decodeForm_eq_invalid_iff.mpr ⟨hundef, rfl, rfl⟩
  · intro b0 b1 b2 b3 hED hDD hFD
    obtain ⟨g, hg⟩ := exists_decodeForm b0 b1 b2 b3
    refine ⟨g, hg, ?_⟩
    rintro p op rfl
    obtain ⟨-, rfl, -⟩ := decodeForm_eq_invalid_iff.mp hg
    cases p with
    | ED => exact hED rfl
    | DD => exact hDD rfl
    | FD => exact hFD rfl
  · intro x d sub
    obtain ⟨g, hg⟩ := exists_decodeForm x.byte 0xCB d sub
    refine ⟨g, hg, ?_⟩
    rintro p op rfl
    obtain ⟨hundef, hx, rfl⟩ := decodeForm_eq_invalid_iff.mp hg
    cases p with
    | ED => cases x <;> exact absurd hx (by decide)
    | DD | FD => exact absurd hundef (by decide)

end Sys2Proof.Machine
end

section
/-! Where PC goes and what a step costs (R130, R131): every form's operation ends in `finish`, `finishAt` or `haltCondition` of a state with
the PC and the cycle count that the step began with. -/

namespace Sys2Proof.Machine

/-- If the step completes, it ends with this PC and has added this cost. -/
def Ends (s : State) (pc : Word) (cost : Nat) (r : Result) : Prop :=
  ∀ t, r = .next t → t.pc = pc ∧ t.cycles = s.cycles + BitVec.ofNat 64 cost

theorem ends_finishAt {s s1 : State} {target : Word} {cost : Nat} (h : s1.cycles = s.cycles) :
    Ends s target cost (.next (s1.finishAt target cost)) := by
  rintro t ⟨⟩
  exact ⟨rfl, by rw [State.finishAt_cycles, h]⟩

theorem ends_finish {s s1 : State} {len cost : Nat} (h : s1.pc = s.pc ∧ s1.cycles = s.cycles) :
    Ends s (s.pc + BitVec.ofNat 16 len) cost (.next (s1.finish len cost)) := by
  rw [← h.1]
  exact ends_finishAt h.2

/-- A step that goes on after an access ends as it ends after each answer of the access. -/
theorem ends_bind {α : Type} {s : State} {pc : Word} {cost : Nat} {x : Except Fault α} {f : α → Except Fault State}
    (h : ∀ a, x = .ok a → Ends s pc cost (outcome (f a))) : Ends s pc cost (outcome (x >>= f)) := by
  cases x with
  | ok a => exact h a rfl
  | error e => exact fun t ht => nomatch ht

/-- A conditional step ends as the branch taken ends. -/
theorem ends_ite {s : State} {pc1 pc2 : Word} {cost1 cost2 : Nat} {r1 r2 : Result} {c : Bool} (h1 : Ends s pc1 cost1 r1)
    (h2 : Ends s pc2 cost2 r2) : Ends s (if c then pc1 else pc2) (if c then cost1 else cost2) (if c then r1 else r2) := by
  cases c with
  | true => exact h1
  | false => exact h2

/-! ## Accesses keep PC and the cycle count -/

theorem bind_eq_ok {α β : Type} {x : Except Fault α} {f : α → Except Fault β} {b : β} (h : x >>= f = .ok b) :
    ∃ a, x = .ok a ∧ f a = .ok b := by
  cases x with
  | ok a => exact ⟨a, rfl, h⟩
  | error e => cases h

theorem State.memWrite_clock {s t : State} {a : Word} {v : Byte} (h : s.memWrite a v = .ok t) : t.pc = s.pc ∧ t.cycles = s.cycles := by
  obtain ⟨-, rfl⟩ := State.memWrite_eq_ok h
  exact ⟨rfl, rfl⟩

theorem State.memWrite16_clock {s t : State} {a v : Word} (h : s.memWrite16 a v = .ok t) : t.pc = s.pc ∧ t.cycles = s.cycles := by
  obtain ⟨s1, hlow, hhigh⟩ := bind_eq_ok h
  obtain ⟨hpc, hcycles⟩ := State.memWrite_clock hlow
  rw [← hpc, ← hcycles]
  exact State.memWrite_clock hhigh

theorem State.push16_clock {s t : State} {v : Word} (h : s.push16 v = .ok t) : t.pc = s.pc ∧ t.cycles = s.cycles := by
  obtain ⟨s1, hhigh, h⟩ := bind_eq_ok h
  obtain ⟨s2, hlow, ⟨⟩⟩ := bind_eq_ok h
  obtain ⟨hpc, hcycles⟩ := State.memWrite_clock hhigh
  rw [← hpc, ← hcycles]
  exact (State.memWrite_clock hlow :)

theorem State.memRead16_eq_ok {s : State} {a v : Word} (h : s.memRead16 a = .ok v) : v = join (s.peek (a + 1)) (s.peek a) := by
  obtain ⟨l, hlow, h⟩ := bind_eq_ok h
  obtain ⟨u, hhigh, ⟨⟩⟩ := bind_eq_ok h
  rw [(State.memRead_eq_ok hlow).2, (State.memRead_eq_ok hhigh).2]

/-- A pop that answers a word answers the one on top of the stack, and moves SP alone. -/
theorem State.pop16_eq_ok {s : State} {p : Word × State} (h : s.pop16 = .ok p) : p = (s.stackTop, { s with sp := s.sp + 2 }) := by
  obtain ⟨v, hread, ⟨⟩⟩ := bind_eq_ok h
  rw [State.memRead16_eq_ok hread, State.stackTop]

theorem State.swapTop_clock {s : State} {v : Word} {p : Word × State} (h : s.swapTop v = .ok p) :
    p.2.pc = s.pc ∧ p.2.cycles = s.cycles := by
  obtain ⟨old, -, h⟩ := bind_eq_ok h
  obtain ⟨s1, hhigh, h⟩ := bind_eq_ok h
  obtain ⟨s2, hlow, ⟨⟩⟩ := bind_eq_ok h
  obtain ⟨hpc, hcycles⟩ := State.memWrite_clock hhigh
  rw [← hpc, ← hcycles]
  exact State.memWrite_clock hlow

theorem State.ioRead_clock (s : State) (port : Byte) : (s.ioRead port).2.pc = s.pc ∧ (s.ioRead port).2.cycles = s.cycles := by
  rw [State.ioRead_frame]
  exact ⟨rfl, rfl⟩

theorem State.ioWrite_clock (s : State) (port v : Byte) : (s.ioWrite port v).pc = s.pc ∧ (s.ioWrite port v).cycles = s.cycles := by
  rw [State.ioWrite_frame]
  exact ⟨rfl, rfl⟩

/-! ## Calls, returns and block instructions -/

theorem callTo_ends (s : State) (nn : Word) : Ends s nn 17 (outcome (s.callTo nn)) :=
  ends_bind fun _ hpush => ends_finishAt (State.push16_clock hpush).2

theorem retWith_ends (s : State) (cost : Nat) : Ends s s.stackTop cost (outcome (s.retWith cost)) :=
  ends_bind fun p hpop => by
    rw [State.pop16_eq_ok hpop]
    exact ends_finishAt rfl

/-- A counter that is one ends at zero, and no other does. -/
theorem sub_one_bne_zero {w : Nat} (n : BitVec w) : (n - 1 != 0) = (n != 1) := by
  rw [Bool.eq_iff_iff, bne_iff_ne, bne_iff_ne, ne_eq, ne_eq, sub_eq_zero]

/-- DJNZ transfers unless B was one (R366). -/
theorem execDjnz_e_eq_ite (e : Byte) (s : State) : execDjnz_e e s =
    if s.regs.b != 1 then .next ((s.setReg .B (s.regs.b - 1)).jumpRel e 13)
    else .next ((s.setReg .B (s.regs.b - 1)).finish 2 8) := by
  rw [← sub_one_bne_zero, execDjnz_e]
  simp

theorem ends_blockEnd {s s1 : State} (again : Bool) (h : s1.pc = s.pc ∧ s1.cycles = s.cycles) :
    Ends s (if again then s.pc else s.pc + 2) (if again then 21 else 16) (.next (s1.blockEnd again)) := by
  cases again with
  | true => exact h.1 ▸ ends_finishAt h.2
  | false => exact ends_finish h

theorem ends_blockEndWZ {s s1 : State} (again : Bool) (h : s1.pc = s.pc ∧ s1.cycles = s.cycles) :
    Ends s (if again then s.pc else s.pc + 2) (if again then 21 else 16) (.next (s1.blockEndWZ again)) := by
  cases again <;> exact ends_blockEnd _ h

theorem blockMove_ends {s : State} {rep again : Bool} (down : Bool) (h : (rep && s.bc - 1 != 0) = again) :
    Ends s (if again then s.pc else s.pc + 2) (if again then 21 else 16) (blockMove down rep s) := by
  subst h
  exact ends_bind fun _ _ => ends_bind fun _ hwrite => ends_blockEndWZ _ (State.memWrite_clock hwrite :)

/-- The half-carry entry of a compare leaves Z alone (R155). -/
theorem flagZ_hEntry_halfcarrySub (i : Nat) : (hEntry halfcarrySub i).getLsbD 6 = false := by
  have hi : i &&& 7 < 8 := Nat.and_lt_two_pow i (n := 3) (by decide)
  unfold hEntry
  interval_cases i &&& 7 <;> rfl

/-- A block compare sets Z exactly when A is the byte compared (R185). -/
theorem flagZ_blockcmpFlags (a v : Byte) (bc : Word) (f : Byte) : flagZ (blockcmpFlags a v bc f) = (a == v) := by
  have hzero : (a - v == 0) = (a == v) := by
    rw [Bool.eq_iff_iff, beq_iff_eq, beq_iff_eq, sub_eq_zero]
  have hbit : ∀ b (m : Byte), (bitIf b m).getLsbD 6 = (b && m.getLsbD 6) := by
    intro b m
    cases b <;> simp [bitIf]
  simp only [flagZ, blockcmpFlags, BitVec.getLsbD_or, BitVec.getLsbD_and, hbit, flagZ_hEntry_halfcarrySub, hzero]
  simp

theorem blockCompare_ends {s : State} {rep again : Bool} (down : Bool)
    (h : (rep && s.bc - 1 != 0 && s.regs.a != s.peek s.hl) = again) :
    Ends s (if again then s.pc else s.pc + 2) (if again then 21 else 16) (blockCompare down rep s) := by
  refine ends_bind fun v hread => ?_
  obtain ⟨-, rfl⟩ := State.memRead_eq_ok hread
  have hagain : (rep && s.bc - 1 != 0 && !flagZ (blockcmpFlags s.a (s.peek s.hl) (s.bc - 1) s.f)) = again := by
    rw [flagZ_blockcmpFlags]
    exact h
  subst hagain
  exact ends_blockEndWZ _ ⟨rfl, rfl⟩

theorem blockIn_ends {s : State} {rep again : Bool} (down : Bool) (h : (rep && s.regs.b - 1 != 0) = again) :
    Ends s (if again then s.pc else s.pc + 2) (if again then 21 else 16) (blockIn down rep s) := by
  subst h
  refine ends_bind fun t hwrite => ends_blockEnd _ ?_
  obtain ⟨hpc, hcycles⟩ := State.memWrite_clock hwrite
  obtain ⟨hpc', hcycles'⟩ := (s.setWZ (stepWord down s.bc)).ioRead_clock s.regs.c
  exact ⟨hpc.trans hpc', hcycles.trans hcycles'⟩

theorem blockOut_ends {s : State} {rep again : Bool} (down : Bool) (h : (rep && s.regs.b - 1 != 0) = again) :
    Ends s (if again then s.pc else s.pc + 2) (if again then 21 else 16) (blockOut down rep s) := by
  subst h
  exact ends_bind fun _ _ => ends_blockEnd _ (State.ioWrite_clock _ _ _ :)

theorem block_ends (k : BlockOp) (s : State) : Ends s (formPcAfter (.block k) s) (formCost (.block k) s) (runForm (.block k) s) := by
  cases k with
  | ldi | ldd => exact blockMove_ends _ rfl
  | ldir | lddr => exact blockMove_ends _ (sub_one_bne_zero s.bc)
  | cpi | cpd => exact blockCompare_ends _ rfl
  | cpir | cpdr => exact blockCompare_ends _ (congrArg (· && _) (sub_one_bne_zero s.bc))
  | ini | ind => exact blockIn_ends _ rfl
  | inir | indr => exact blockIn_ends _ (sub_one_bne_zero s.regs.b)
  | outi | outd => exact blockOut_ends _ rfl
  | otir | otdr => exact blockOut_ends _ (sub_one_bne_zero s.regs.b)

/-! ## Every form -/

theorem runForm_ends (g : Form) (s : State) : Ends s (formPcAfter g s) (formCost g s) (runForm g s) := by
  cases g with
  -- no data access
  | ldRegReg | ldRegImm | ldAccSpecial | ldRegHalf | ldSpHl | ldSpIndex | exDeHl | exAf | exx
  | aluReg | aluImm | aluHalf | incReg | decReg | daa | cpl | neg | ccf | scf | addHl | adcHl | sbcHl
  | accRot | rotReg | bitReg | chgReg | nop | di | ei | im => exact ends_finish ⟨rfl, rfl⟩
  | ldSpecialAcc | ldHalfReg | ldHalfHalf | ldHalfImm | ldPairImm | ldIndexImm | incHalf | decHalf
  | addIndex | incPair | incIndex | decPair | decIndex => exact ends_finish (by simp)
  | inAcc n => exact ends_finish (State.ioRead_clock _ _ :)
  | inReg r => exact ends_finish (State.ioRead_clock _ _ :)
  | outAcc | outReg => exact ends_finish (State.ioWrite_clock _ _ _ :)
  | halt => exact fun t ht => by cases ht; exact ⟨rfl, rfl⟩
  | invalid => exact fun t ht => nomatch ht
  -- a read, a write, or a read and a write
  | ldRegMem | ldRegIdx | ldAccInd | ldAccAbs | aluMem | aluIdx | bitMem | bitIdx =>
    exact ends_bind fun _ _ => ends_finish ⟨rfl, rfl⟩
  | ldMemReg | ldMemImm | ldIdxReg | ldIdxImm | ldIndAcc | ldAbsAcc =>
    exact ends_bind fun _ hwrite => ends_finish (State.memWrite_clock hwrite :)
  | incMem | incIdx | decMem | decIdx | rotMem | chgMem | rld | rrd =>
    exact ends_bind fun _ _ => ends_bind fun _ hwrite => ends_finish (State.memWrite_clock hwrite :)
  | rotIdx | chgIdx =>
    exact ends_bind fun _ _ => ends_bind fun _ hwrite => ends_finish (by simpa using State.memWrite_clock hwrite)
  -- words and the stack
  | ldHlAbs | ldPairAbs | ldIndexAbs => exact ends_bind fun _ _ => ends_finish (by simp)
  | ldAbsHl | ldAbsPair | ldAbsIndex => exact ends_bind fun _ hwrite => ends_finish (State.memWrite16_clock hwrite :)
  | pushPair | pushIndex => exact ends_bind fun _ hpush => ends_finish (State.push16_clock hpush :)
  | popPair | popIndex =>
    refine ends_bind fun p hpop => ?_
    rw [State.pop16_eq_ok hpop]
    exact ends_finish (by simp)
  | exSpHl => exact ends_bind fun _ hswap => ends_finish (State.swapTop_clock hswap :)
  | exSpIndex => exact ends_bind fun _ hswap => ends_finish (by simpa using State.swapTop_clock hswap)
  -- control transfer
  | jp | jr | jpHl | jpIndex => exact ends_finishAt rfl
  | jpCond | jrCond => exact ends_ite (ends_finishAt rfl) (ends_finish ⟨rfl, rfl⟩)
  | djnz e =>
    rw [runForm, execDjnz_e_eq_ite]
    exact ends_ite (ends_finishAt rfl) (ends_finish ⟨rfl, rfl⟩)
  | call nn => exact callTo_ends s nn
  | callCond cc nn => exact ends_ite (callTo_ends s nn) (ends_finish ⟨rfl, rfl⟩)
  | ret | retn => exact retWith_ends s _
  | retCond cc => exact ends_ite (retWith_ends s 11) (ends_finish ⟨rfl, rfl⟩)
  | reti =>
    refine ends_bind fun t hret => ?_
    obtain ⟨hpc, hcycles⟩ := retWith_ends s 14 t (congrArg outcome hret)
    exact fun u hu => by cases hu; exact ⟨hpc, hcycles⟩
  | rst => exact ends_bind fun _ hpush => ends_finishAt (State.push16_clock hpush).2
  | block k => exact block_ends k s

/-- Settles O16: the form's operation, by `exec_toInstr`, ends as `runForm_ends` says. -/
theorem pcAndCyclesAfter : Obligations.PcAndCyclesAfter := by
  intro g s t h
  rw [exec_toInstr] at h
  exact runForm_ends g s t h

end Sys2Proof.Machine
end

section
/-! The disassembler and the executor read one decoder (R133): what a fetch answers, the bytes in memory decode to. -/

namespace Sys2Proof.Machine

theorem listFetch_instructionBytes (s : State) (a : Word) {k : Nat} (hk : k < 4) :
    listFetch (s.instructionBytes a) k = .ok (s.peek (a + BitVec.ofNat 16 k)) := by
  simp [listFetch, State.instructionBytes, List.getElem?_range hk]

/-- The bytes of a fetched instruction stand at PC, and decode to it whatever the page attributes of the bytes after them. -/
theorem decodeForm_of_fetchForm {s : State} {g : Form} (h : s.fetchForm = .ok g) :
    decodeForm (s.instructionBytes s.pc) = .ok g := by
  obtain ⟨hw, hreads⟩ := decodeWith_eq_ok_iff.mp h
  refine decodeWith_of_reads hw fun k v hk => ?_
  have hlt : k < 4 := by
    have hlen := (List.getElem?_eq_some_iff.mp hk).1
    rw [← length_eq_length_formBytes] at hlen
    exact hlen.trans_le (one_le_length_le_four g).2
  rw [listFetch_instructionBytes s s.pc hlt, (State.memRead_eq_ok (hreads k v hk)).2]

/-- Settles O29: the disassembler reads the form fetched (`decodeForm_of_fetchForm`), and PC after the step is O16's. -/
theorem disassemblerLength : Obligations.DisassemblerLength := by
  intro s g hg
  refine ⟨⟨disassembleForm s.mode s.pc (s.instructionBytes s.pc) g, ?_, rfl, ?_⟩, ?_⟩
  · simp only [State.disassemble, decodeForm_of_fetchForm hg]
  · intro t ht hpc
    rw [step_of_fetchForm hg] at ht
    exact (pcAndCyclesAfter g s t ht).1.trans hpc
  · rintro p op rfl
    rfl

end Sys2Proof.Machine
end

section
/-! The flag byte bit by bit (R32, R150 to R157): what each part of a result's flags puts into each bit. -/

namespace Sys2Proof.Machine

/-- A conditional mask has the bits of the mask where the condition holds. -/
@[simp] theorem getElem_bitIf (b : Bool) (mask : Byte) (i : Nat) (hi : i < 8) : (bitIf b mask)[i] = (b && mask[i]) := by
  cases b <;> simp [bitIf]

/-- S, Y and X are the result's own bits, and Z says that it is zero (R150). -/
@[simp] theorem getElem_sz53 (r : Byte) (i : Nat) (hi : i < 8) :
    (sz53 r)[i] = (r[i] && (0xA8 : Byte)[i] || (r == 0) && (0x40 : Byte)[i]) := by
  simp [sz53]

/-- The parity of a result stands in PV alone (R151). -/
@[simp] theorem getElem_parity (r : Byte) (i : Nat) (hi : i < 8) :
    (parity r)[i] = (popcount r % 2 == 0 && (0x04 : Byte)[i]) :=
  getElem_bitIf _ _ i hi

/-! ## The carry and overflow tables -/

section tables
variable {w : Nat} (res x y : BitVec w) (hb vb : Nat)

theorem triple_lt : triple res x y hb < 8 := by
  unfold triple
  cases res.getLsbD hb <;> cases x.getLsbD hb <;> cases y.getLsbD hb <;> decide

theorem r12_and_seven : r12 res x y hb vb &&& 7 = triple res x y hb := by
  have hlow : ∀ t < 8, ∀ u < 8, (t ||| u <<< 4) &&& 7 = t := by decide
  exact hlow _ (triple_lt res x y hb) _ (triple_lt res x y vb)

theorem r12_shiftRight_four : r12 res x y hb vb >>> 4 = triple res x y vb := by
  have hhigh : ∀ t < 8, ∀ u < 8, (t ||| u <<< 4) >>> 4 = u := by decide
  exact hhigh _ (triple_lt res x y hb) _ (triple_lt res x y vb)

/-- The half-carry table of a sum: the carry out of the bit looked at, from the bits of the operands and of the result (R154). -/
@[simp] theorem hEntry_halfcarryAdd : hEntry halfcarryAdd (r12 res x y hb vb) =
    bitIf (x.getLsbD hb && y.getLsbD hb || (x.getLsbD hb || y.getLsbD hb) && !res.getLsbD hb) 0x10 := by
  rw [hEntry, r12_and_seven, triple]
  cases res.getLsbD hb <;> cases x.getLsbD hb <;> cases y.getLsbD hb <;> rfl

/-- The half-carry table of a difference: the borrow out of the bit looked at (R155). -/
@[simp] theorem hEntry_halfcarrySub : hEntry halfcarrySub (r12 res x y hb vb) =
    bitIf (!x.getLsbD hb && y.getLsbD hb || (!x.getLsbD hb || y.getLsbD hb) && res.getLsbD hb) 0x10 := by
  rw [hEntry, r12_and_seven, triple]
  cases res.getLsbD hb <;> cases x.getLsbD hb <;> cases y.getLsbD hb <;> rfl

/-- The overflow table of a sum: the operands' signs agree and the result's differs (R156). -/
@[simp] theorem vEntry_overflowAdd : vEntry overflowAdd (r12 res x y hb vb) =
    bitIf (x.getLsbD vb == y.getLsbD vb && res.getLsbD vb != x.getLsbD vb) 0x04 := by
  rw [vEntry, r12_shiftRight_four, triple]
  cases res.getLsbD vb <;> cases x.getLsbD vb <;> cases y.getLsbD vb <;> rfl

/-- The overflow table of a difference: the operands' signs differ, and so do the result's and the first operand's (R157). -/
@[simp] theorem vEntry_overflowSub : vEntry overflowSub (r12 res x y hb vb) =
    bitIf (x.getLsbD vb != y.getLsbD vb && res.getLsbD vb != x.getLsbD vb) 0x04 := by
  rw [vEntry, r12_shiftRight_four, triple]
  cases res.getLsbD vb <;> cases x.getLsbD vb <;> cases y.getLsbD vb <;> rfl

end tables

end Sys2Proof.Machine
end

section
/-! Rotates and shifts of a byte (R172 to R179): a shift by one bit that takes a bit in at the end it leaves empty. -/

namespace Sys2Proof.Machine

theorem getElem_shiftLeft_one_or_bitIf (v : Byte) (b : Bool) {j : Nat} (hj : j < 8) :
    (v <<< 1 ||| bitIf b 0x01)[j] = if j = 0 then b else v.getLsbD (j - 1) := by
  have hlow : (0x01 : Byte)[j] = decide (j = 0) := BitVec.getElem_one hj
  rw [BitVec.getElem_or, BitVec.getElem_shiftLeft, getElem_bitIf, hlow]
  by_cases h : j = 0
  · simp [h]
  · simp [h, BitVec.getLsbD_eq_getElem (show j - 1 < 8 by omega)]

theorem getElem_ushiftRight_one_or_bitIf (v : Byte) (b : Bool) {j : Nat} (hj : j < 8) :
    (v >>> 1 ||| bitIf b 0x80)[j] = if j = 7 then b else v.getLsbD (j + 1) := by
  have hbits : ∀ (i : Nat) (hi : i < 8), (0x80 : Byte)[i] = decide (i = 7) := by decide
  have hhigh := hbits j hj
  rw [BitVec.getElem_or, BitVec.getElem_ushiftRight, getElem_bitIf, hhigh, Nat.add_comm]
  by_cases h : j = 7 <;> simp [h]

theorem rotResult_of_rotLeft {k : RotOp} (h : rotLeft k = true) (v : Byte) (c : Bool) :
    rotResult k v c = v <<< 1 ||| bitIf (rotIn k v c) 0x01 := by
  cases k with
  | rlc | rl | sll => rfl
  | sla => simp [rotResult, rotIn, bitIf]
  | rrc | rr | sra | srl => cases h

theorem rotResult_of_not_rotLeft {k : RotOp} (h : rotLeft k = false) (v : Byte) (c : Bool) :
    rotResult k v c = v >>> 1 ||| bitIf (rotIn k v c) 0x80 := by
  cases k with
  | rrc | rr => rfl
  | srl => simp [rotResult, rotIn, bitIf]
  | sra =>
    have hsign : ∀ u : Byte, u &&& 0x80 = bitIf (u.getLsbD 7) 0x80 := by decide
    exact congrArg (v >>> 1 ||| ·) (hsign v)
  | rlc | rl | sla | sll => cases h

theorem rotCarry_eq_ite (k : RotOp) (v : Byte) : rotCarry k v = if rotLeft k then v.getLsbD 7 else v.getLsbD 0 := by
  cases k <;> rfl

/-- The bits of a rotated or shifted byte: the bit that comes in at one end, the others moved by one (R172 to R179). -/
theorem getLsbD_rotResult (k : RotOp) (v : Byte) (c : Bool) {j : Nat} (hj : j < 8) :
    (rotResult k v c).getLsbD j =
      if rotLeft k then (if j = 0 then rotIn k v c else v.getLsbD (j - 1))
      else (if j = 7 then rotIn k v c else v.getLsbD (j + 1)) := by
  rw [BitVec.getLsbD_eq_getElem hj]
  cases hk : rotLeft k with
  | true => exact (congrArg (·[j]) (rotResult_of_rotLeft hk v c)).trans (getElem_shiftLeft_one_or_bitIf v _ hj)
  | false => exact (congrArg (·[j]) (rotResult_of_not_rotLeft hk v c)).trans (getElem_ushiftRight_one_or_bitIf v _ hj)

/-- Settles O48: the bits by `getLsbD_rotResult`, C by `rotCarry_eq_ite`, the other flags by the bits of `sz53` and `parity`. -/
theorem rotateAndShiftBits : Obligations.RotateAndShiftBits := by
  intro k v c
  refine ⟨fun j hj => getLsbD_rotResult k v c hj, ?_, ?_⟩
  · rw [← rotCarry_eq_ite]
    simp [flagC, rot8, sz53p]
  · simp [flagH, flagN, flagZ, flagS, flagY, flagX, flagPV, rot8, sz53p]

end Sys2Proof.Machine
end

section
/-! 8-bit sums and differences (R161, R162) and DAA (R183) by their meaning, and decimal arithmetic with two digits in a byte. -/

namespace Sys2Proof.Machine

/-! ## Sums and differences -/

theorem toNat_add8 (a v : Byte) (c : Bool) : (add8 a v c).1.toNat = (a.toNat + v.toNat + c.toNat) % 256 := rfl

theorem toNat_sub8 (a v : Byte) (c : Bool) : (sub8 a v c).1.toNat = (a.toNat + 512 - v.toNat - c.toNat) % 256 := by
  have hc := c.toNat_le
  simp only [sub8, BitVec.toNat_ofInt]
  omega

theorem flagC_add8 (a v : Byte) (c : Bool) : flagC (add8 a v c).2 = true ↔ 256 ≤ a.toNat + v.toNat + c.toNat := by
  simp [flagC, add8, Nat.succ_le_iff]

theorem flagC_sub8 (a v : Byte) (c : Bool) : flagC (sub8 a v c).2 = true ↔ a.toNat < v.toNat + c.toNat := by
  have hbit : flagC (sub8 a v c).2 = decide ((a.toNat : Int) - v.toNat - c.toNat < 0) := by simp [flagC, sub8]
  rw [hbit, decide_eq_true_eq]
  omega

theorem flagN_add8 (a v : Byte) (c : Bool) : flagN (add8 a v c).2 = false := by
  simp [flagN, add8]

theorem flagN_sub8 (a v : Byte) (c : Bool) : flagN (sub8 a v c).2 = true := by
  simp [flagN, sub8]

/-- Bit 3 of a byte says whether its low digit reaches 8. -/
theorem getElem_three (x : Byte) : x[3] = true ↔ 8 ≤ x.toNat % 16 := by
  have hdigit : x[3] = decide (x.toNat / 8 % 2 = 1) := Nat.testBit_eq_decide_div_mod_eq
  rw [hdigit, decide_eq_true_eq]
  omega

/-- H is the carry out of bit 3: the bits of the operands and of the result there say whether the low digits' sum reaches 16. -/
theorem flagH_add8 (a v : Byte) (c : Bool) :
    flagH (add8 a v c).2 = true ↔ 16 ≤ a.toNat % 16 + v.toNat % 16 + c.toNat := by
  have hbit : flagH (add8 a v c).2 = (a[3] && v[3] || (a[3] || v[3]) && !(add8 a v c).1[3]) := by
    simp [flagH, add8]
  have hc := c.toNat_le
  rw [hbit]
  simp only [Bool.or_eq_true, Bool.and_eq_true, Bool.not_eq_true', ← Bool.not_eq_true, getElem_three, toNat_add8]
  omega

/-- H is the borrow out of bit 3. -/
theorem flagH_sub8 (a v : Byte) (c : Bool) : flagH (sub8 a v c).2 = true ↔ a.toNat % 16 < v.toNat % 16 + c.toNat := by
  have hbit : flagH (sub8 a v c).2 = (!a[3] && v[3] || (!a[3] || v[3]) && (sub8 a v c).1[3]) := by
    simp [flagH, sub8]
  have hc := c.toNat_le
  rw [hbit]
  simp only [Bool.or_eq_true, Bool.and_eq_true, Bool.not_eq_true', ← Bool.not_eq_true, getElem_three, toNat_sub8]
  omega

/-! ## DAA -/

/-- DAA's adjustment of the low digit: 6 where it carried or is not decimal (R183). -/
def daaLow (a old : Byte) : Nat := if flagH old = true ∨ 9 < a.toNat % 16 then 0x06 else 0

/-- DAA's adjustment of the high digit: 0x60 where the byte carried or is above 0x99 (R183). -/
def daaHigh (a old : Byte) : Nat := if flagC old = true ∨ 0x99 < a.toNat then 0x60 else 0

theorem daaLow_eq_mul {a old : Byte} {carry : Nat} (hle : carry ≤ 1) (h : flagH old = true ∨ 9 < a.toNat % 16 ↔ carry = 1) :
    daaLow a old = 0x06 * carry := by
  rw [daaLow, if_congr h rfl rfl]
  split <;> omega

theorem daaHigh_eq_mul {a old : Byte} {carry : Nat} (hle : carry ≤ 1) (h : flagC old = true ∨ 0x99 < a.toNat ↔ carry = 1) :
    daaHigh a old = 0x60 * carry := by
  rw [daaHigh, if_congr h rfl rfl]
  split <;> omega

theorem daaLow_cases (a old : Byte) : daaLow a old = 0x06 ∨ daaLow a old = 0 := ite_eq_or_eq _ _ _

theorem daaHigh_cases (a old : Byte) : daaHigh a old = 0x60 ∨ daaHigh a old = 0 := ite_eq_or_eq _ _ _

theorem toNat_daaDiff (a old : Byte) : (daaDiff a old).toNat = daaLow a old + daaHigh a old := by
  have hdigit : (a &&& 0x0F).toNat = a.toNat % 16 := Nat.and_two_pow_sub_one_eq_mod a.toNat 4
  have hor : ∀ p q : Bool, (bitIf p 0x06 ||| bitIf q 0x60).toNat = (if p then 0x06 else 0) + (if q then 0x60 else 0) := by decide
  rw [daaDiff, hor, hdigit]
  simp [daaLow, daaHigh]

/-- DAA after an addition adds the adjustment, and H is its carry out of bit 3 (R183). -/
theorem daa8_of_not_flagN {a old : Byte} (hn : flagN old = false) :
    (daa8 a old).1.toNat = (a.toNat + daaLow a old + daaHigh a old) % 256 ∧
    (flagH (daa8 a old).2 = true ↔ 16 ≤ a.toNat % 16 + daaLow a old) := by
  have hresult : (daa8 a old).1 = (add8 a (daaDiff a old) false).1 := by simp [daa8, hn]
  have hhalf : flagH (daa8 a old).2 = flagH (add8 a (daaDiff a old) false).2 := by simp [flagH, daa8, hn]
  have hlow := daaLow_cases a old
  have hhigh := daaHigh_cases a old
  rw [hresult, hhalf, toNat_add8, flagH_add8, toNat_daaDiff, Bool.toNat_false]
  omega

/-- DAA after a subtraction subtracts the adjustment, and H is its borrow at bit 3 (R183). -/
theorem daa8_of_flagN {a old : Byte} (hn : flagN old = true) :
    (daa8 a old).1.toNat = (a.toNat + 256 - daaLow a old - daaHigh a old) % 256 ∧
    (flagH (daa8 a old).2 = true ↔ a.toNat % 16 < daaLow a old) := by
  have hresult : (daa8 a old).1 = (sub8 a (daaDiff a old) false).1 := by simp [daa8, hn]
  have hhalf : flagH (daa8 a old).2 = flagH (sub8 a (daaDiff a old) false).2 := by simp [flagH, daa8, hn]
  have hlow := daaLow_cases a old
  have hhigh := daaHigh_cases a old
  rw [hresult, hhalf, toNat_sub8, flagH_sub8, toNat_daaDiff, Bool.toNat_false]
  omega

/-- DAA sets C exactly where it adjusts the high digit (R183). -/
theorem flagC_daa8 (a old : Byte) : flagC (daa8 a old).2 = true ↔ daaHigh a old = 0x60 := by
  have hbit : flagC (daa8 a old).2 = (flagC old || decide (0x99 < a.toNat)) := by simp [flagC, daa8]
  rw [hbit, Bool.or_eq_true, decide_eq_true_eq]
  by_cases h : flagC old = true ∨ 0x99 < a.toNat <;> simp [daaHigh, h]

/-! ## Decimal arithmetic

The sum of two decimal bytes lacks 6 for each digit that carries. Such a digit leaves its carry set or is above 9, and no other digit
does, so DAA adds what is missing. A difference is the same sum read the other way round. -/

section digits
variable {a b r : Byte} {c : Bool} {low high : Nat}

/-- DAA after a sum whose decimal digits are those of `r`, with carries `low` and `high`. -/
theorem daa8_add8_of_digits (hlow : low ≤ 1) (hhigh : high ≤ 1) (hdigit : r.toNat % 16 ≤ 9) (hr : r.toNat ≤ 0x99)
    (hunits : a.toNat % 16 + b.toNat % 16 + c.toNat = r.toNat % 16 + 10 * low)
    (hbytes : a.toNat + b.toNat + c.toNat + 6 * low = r.toNat + 160 * high) :
    (daa8 (add8 a b c).1 (add8 a b c).2).1 = r ∧ (flagC (daa8 (add8 a b c).1 (add8 a b c).2).2 = true ↔ high = 1) := by
  have hadjustLow : daaLow (add8 a b c).1 (add8 a b c).2 = 0x06 * low := by
    apply daaLow_eq_mul hlow
    rw [flagH_add8, toNat_add8]
    omega
  have hadjustHigh : daaHigh (add8 a b c).1 (add8 a b c).2 = 0x60 * high := by
    apply daaHigh_eq_mul hhigh
    rw [flagC_add8, toNat_add8]
    omega
  refine ⟨BitVec.eq_of_toNat_eq ?_, ?_⟩
  · rw [(daa8_of_not_flagN (flagN_add8 a b c)).1, hadjustLow, hadjustHigh, toNat_add8]
    omega
  · rw [flagC_daa8, hadjustHigh]
    omega

/-- DAA after a difference whose decimal digits are those of `r`, with borrows `low` and `high`. -/
theorem daa8_sub8_of_digits (hlow : low ≤ 1) (hhigh : high ≤ 1) (hdigit : r.toNat % 16 ≤ 9) (ha : a.toNat ≤ 0x99)
    (hr : r.toNat ≤ 0x99) (hunits : b.toNat % 16 + r.toNat % 16 + c.toNat = a.toNat % 16 + 10 * low)
    (hbytes : b.toNat + r.toNat + c.toNat + 6 * low = a.toNat + 160 * high) :
    (daa8 (sub8 a b c).1 (sub8 a b c).2).1 = r ∧ (flagC (daa8 (sub8 a b c).1 (sub8 a b c).2).2 = true ↔ high = 1) := by
  have hadjustLow : daaLow (sub8 a b c).1 (sub8 a b c).2 = 0x06 * low := by
    apply daaLow_eq_mul hlow
    rw [flagH_sub8, toNat_sub8]
    omega
  have hadjustHigh : daaHigh (sub8 a b c).1 (sub8 a b c).2 = 0x60 * high := by
    apply daaHigh_eq_mul hhigh
    rw [flagC_sub8, toNat_sub8]
    omega
  refine ⟨BitVec.eq_of_toNat_eq ?_, ?_⟩
  · rw [(daa8_of_flagN (flagN_sub8 a b c)).1, hadjustLow, hadjustHigh, toNat_sub8]
    omega
  · rw [flagC_daa8, hadjustHigh]
    omega

end digits

/-- Two decimal digits in a byte. -/
def bcd (k : Nat) : Byte := BitVec.ofNat 8 (16 * (k / 10) + k % 10)

theorem toNat_bcd {k : Nat} (hk : k < 100) : (bcd k).toNat = 16 * (k / 10) + k % 10 := by
  rw [bcd, BitVec.toNat_ofNat]
  omega

theorem toNat_bcd_mod_sixteen {k : Nat} (hk : k < 100) : (bcd k).toNat % 16 = k % 10 := by
  rw [toNat_bcd hk]
  omega

theorem toNat_bcd_mod_sixteen_le {k : Nat} (hk : k < 100) : (bcd k).toNat % 16 ≤ 9 := by
  rw [toNat_bcd_mod_sixteen hk]
  omega

theorem toNat_bcd_le {k : Nat} (hk : k < 100) : (bcd k).toNat ≤ 0x99 := by
  rw [toNat_bcd hk]
  omega

/-- A decimal sum digit by digit, and the binary sum of the bytes: 6 less for each carry. -/
theorem exists_carry_of_decimal_sum {m n k high : Nat} {c : Bool} (hm : m < 100) (hn : n < 100) (hk : k < 100)
    (hsum : m + n + c.toNat = k + 100 * high) : ∃ low ≤ 1,
    (bcd m).toNat % 16 + (bcd n).toNat % 16 + c.toNat = (bcd k).toNat % 16 + 10 * low ∧
    (bcd m).toNat + (bcd n).toNat + c.toNat + 6 * low = (bcd k).toNat + 160 * high := by
  have hc := c.toNat_le
  rw [toNat_bcd_mod_sixteen hm, toNat_bcd_mod_sixteen hn, toNat_bcd_mod_sixteen hk, toNat_bcd hm, toNat_bcd hn, toNat_bcd hk]
  exact ⟨(m % 10 + n % 10 + c.toNat) / 10, by omega⟩

/-- DAA after the sum of two decimal bytes: their decimal sum, and the decimal carry in C. -/
theorem daa8_add8_bcd {m n k high : Nat} {c : Bool} (hm : m < 100) (hn : n < 100) (hk : k < 100)
    (hsum : m + n + c.toNat = k + 100 * high) :
    (daa8 (add8 (bcd m) (bcd n) c).1 (add8 (bcd m) (bcd n) c).2).1 = bcd k ∧
    (flagC (daa8 (add8 (bcd m) (bcd n) c).1 (add8 (bcd m) (bcd n) c).2).2 = true ↔ high = 1) := by
  have hc := c.toNat_le
  obtain ⟨low, hlow, hunits, hbytes⟩ := exists_carry_of_decimal_sum hm hn hk hsum
  exact daa8_add8_of_digits hlow (by omega) (toNat_bcd_mod_sixteen_le hk) (toNat_bcd_le hk) hunits hbytes

/-- DAA after the difference of two decimal bytes: their decimal difference, and the decimal borrow in C. -/
theorem daa8_sub8_bcd {m n k high : Nat} {c : Bool} (hm : m < 100) (hn : n < 100) (hk : k < 100)
    (hsum : n + k + c.toNat = m + 100 * high) :
    (daa8 (sub8 (bcd m) (bcd n) c).1 (sub8 (bcd m) (bcd n) c).2).1 = bcd k ∧
    (flagC (daa8 (sub8 (bcd m) (bcd n) c).1 (sub8 (bcd m) (bcd n) c).2).2 = true ↔ high = 1) := by
  have hc := c.toNat_le
  obtain ⟨low, hlow, hunits, hbytes⟩ := exists_carry_of_decimal_sum hn hk hm hsum
  exact daa8_sub8_of_digits hlow (by omega) (toNat_bcd_mod_sixteen_le hk) (toNat_bcd_le hm) (toNat_bcd_le hk) hunits hbytes

/-- Settles O43: the decimal results are `daa8_add8_bcd` and `daa8_sub8_bcd`, the adjustment in every other state `daa8_of_not_flagN`,
`daa8_of_flagN` and `flagC_daa8`. -/
theorem decimalAdjust : Obligations.DecimalAdjust := by
  refine ⟨fun m n c hm hn => ?_, fun a old => ⟨daa8_of_not_flagN, daa8_of_flagN, flagC_daa8 a old, ?_⟩⟩
  · have hc := c.toNat_le
    have hcarry : (m + n + c.toNat) / 100 = 1 ↔ 100 ≤ m + n + c.toNat := by omega
    have hborrow : (n + (m + 200 - n - c.toNat) % 100 + c.toNat) / 100 = 1 ↔ m < n + c.toNat := by omega
    rw [← hcarry, ← hborrow]
    exact ⟨daa8_add8_bcd hm hn (Nat.mod_lt _ (by decide)) (Nat.mod_add_div _ 100).symm,
      daa8_sub8_bcd hm hn (Nat.mod_lt _ (by decide)) (by omega)⟩
  · simp [flagN, flagPV, flagZ, flagS, flagY, flagX, daa8]

end Sys2Proof.Machine
end

section
/-! The 8-bit loads (R200 to R219): the bytes of each and its next state. -/

namespace Sys2Proof.Machine

/-! ## From a form's operation to its instruction -/

/-- The bytes and the answer of a form's instruction, from the form's. -/
theorem encode_exec_toInstr {g : Form} {s : State} {bytes : List Byte} {r : Result} (hbytes : formBytes g = bytes)
    (hrun : runForm g s = r) : encode g.toInstr = bytes ∧ exec g.toInstr s = r :=
  ⟨(encode_toInstr g).trans hbytes, (exec_toInstr g s).trans hrun⟩

/-- A step goes on after a permitted read with the byte stored. -/
theorem outcome_memRead_bind {s : State} {a : Word} {f : Byte → Except Fault State} (h : s.canRead a = true) :
    outcome (s.memRead a >>= f) = outcome (f (s.peek a)) := by
  rw [State.memRead_ok h]
  rfl

/-- A step goes on after a permitted write with the byte stored. -/
theorem outcome_memWrite_bind {s : State} {a : Word} {v : Byte} {f : State → Except Fault State} (h : s.canWrite a = true) :
    outcome (s.memWrite a v >>= f) = outcome (f (s.poke a v)) := by
  rw [State.memWrite_ok h]
  rfl

/-! ## Halves of the index registers -/

/-- An index register just written reads as written, and the other did not change (R34). -/
theorem State.index_setIndex (s : State) (x y : Index) (w : Word) :
    (s.setIndex x w).index y = if y = x then w else s.index y := by
  cases x <;> cases y <;> rfl

/-- A half just written reads as written, and no other half changed (R34). -/
theorem State.half_setHalf (s : State) (x y : Index) (h k : Half) (v : Byte) :
    (s.setHalf x h v).half y k = if (y, k) = (x, h) then v else s.half y k := by
  by_cases hy : y = x
  · subst hy
    cases h <;> cases k <;> simp [State.half, State.setHalf, State.index_setIndex]
  · cases h <;> simp [State.half, State.setHalf, State.index_setIndex, hy]

/-- Writing a half changes nothing outside the index registers. -/
theorem State.setHalf_frame (s : State) (x : Index) (h : Half) (v : Byte) :
    { s.setHalf x h v with ix := s.ix, iy := s.iy } = s := by
  cases h <;> cases x <;> rfl

/-- A form that writes a half and ends leaves every other half and everything else. -/
theorem exec_of_runForm_setHalf {g : Form} {s : State} {x : Index} {h : Half} {v : Byte} {len cost : Nat}
    (hrun : runForm g s = .next ((s.setHalf x h v).finish len cost)) :
    ∃ t, exec g.toInstr s = .next t ∧ t.half x h = v ∧ (∀ y k, (y, k) ≠ (x, h) → t.half y k = s.half y k) ∧
      { t with ix := s.ix, iy := s.iy } = s.ended (s.pc + BitVec.ofNat 16 len) cost := by
  refine ⟨_, (exec_toInstr g s).trans hrun, ?_, fun y k hne => ?_, ?_⟩
  · exact (s.half_setHalf x x h h v).trans (if_pos rfl)
  · exact (s.half_setHalf x y h k v).trans (if_neg hne)
  · calc { (s.setHalf x h v).finish len cost with ix := s.ix, iy := s.iy }
        = { s.setHalf x h v with ix := s.ix, iy := s.iy }.ended ((s.setHalf x h v).pc + BitVec.ofNat 16 len) cost := rfl
      _ = s.ended (s.pc + BitVec.ofNat 16 len) cost := by rw [State.setHalf_frame, State.setHalf_pc]

/-- Settles O34: each load of a half is a `setHalf`, by `exec_of_runForm_setHalf`. -/
theorem loadHalfIndex : Obligations.LoadHalfIndex :=
  ⟨fun _ _ _ _ => encode_exec_toInstr rfl rfl,
   fun _ _ _ _ => ⟨encode_toInstr _, exec_of_runForm_setHalf rfl⟩,
   fun _ _ _ _ => ⟨encode_toInstr _, exec_of_runForm_setHalf rfl⟩,
   fun _ _ _ _ => ⟨encode_toInstr _, exec_of_runForm_setHalf rfl⟩⟩

/-! ## Registers, immediates and memory -/

/-- Settles O30: a permitted access goes on by `outcome_memRead_bind` or `outcome_memWrite_bind`. -/
theorem loadRegisterAndHL : Obligations.LoadRegisterAndHL :=
  ⟨fun _ _ _ => encode_exec_toInstr rfl rfl,
   fun _ _ _ => encode_exec_toInstr rfl rfl,
   fun _ _ hread => encode_exec_toInstr rfl (outcome_memRead_bind hread),
   fun _ _ hwrite => encode_exec_toInstr rfl (outcome_memWrite_bind hwrite),
   fun _ _ hwrite => encode_exec_toInstr rfl (outcome_memWrite_bind hwrite)⟩

/-- Settles O31: WZ is set before the access, and the page attributes do not depend on it. -/
theorem loadIndexed : Obligations.LoadIndexed :=
  ⟨fun _ x d s hread => encode_exec_toInstr rfl (outcome_memRead_bind (s := s.setWZ (s.ea x d)) hread),
   fun x d _ s hwrite => encode_exec_toInstr rfl (outcome_memWrite_bind (s := s.setWZ (s.ea x d)) hwrite),
   fun x d _ s hwrite => encode_exec_toInstr rfl (outcome_memWrite_bind (s := s.setWZ (s.ea x d)) hwrite)⟩

/-- The low byte of the next address is the next byte: no carry goes down. -/
theorem lo_add_one (w : Word) : lo (w + 1) = lo w + 1 := by
  apply BitVec.eq_of_toNat_eq
  simp [lo]

/-- Settles O32: a permitted access goes on, and Z is the low byte of the next address by `lo_add_one`. -/
theorem loadAccumulator : Obligations.LoadAccumulator := by
  refine ⟨fun _ _ hread => encode_exec_toInstr rfl (outcome_memRead_bind hread),
    fun _ _ hwrite => encode_exec_toInstr rfl (outcome_memWrite_bind hwrite),
    fun _ _ hread => encode_exec_toInstr rfl (outcome_memRead_bind hread),
    fun nn s hwrite => ?_⟩
  rw [lo_add_one]
  exact encode_exec_toInstr rfl (outcome_memWrite_bind hwrite)

/-- Settles O33: I and R are the two cases of the one operation each way. -/
theorem loadSpecialRegisters : Obligations.LoadSpecialRegisters :=
  ⟨fun _ => encode_exec_toInstr rfl rfl,
   fun _ => encode_exec_toInstr rfl rfl,
   fun _ => encode_exec_toInstr rfl rfl,
   fun _ => encode_exec_toInstr rfl rfl⟩

end Sys2Proof.Machine
end

section
/-! The 16-bit loads, the stack and the exchanges (R240 to R258): the bytes of each and its next state. -/

namespace Sys2Proof.Machine

/-- A step goes on with what an access that did not fail answers. -/
theorem outcome_bind_ok {α : Type} {x : Except Fault α} {v : α} {f : α → Except Fault State} (h : x = .ok v) :
    outcome (x >>= f) = outcome (f v) := by
  rw [h]
  rfl

/-- A state that still holds the step's first PC finishes at the next instruction after it. -/
theorem next_finish_eq {t : State} {pc : Word} {len cost : Nat} (h : t.pc = pc) :
    (.next (t.finish len cost) : Result) = .next (t.ended (pc + BitVec.ofNat 16 len) cost) := by
  rw [← h]
  rfl

/-! ## Pairs and their bytes (R30) -/

@[simp] theorem State.hi_af (s : State) : hi s.af = s.regs.a := hi_join _ _
@[simp] theorem State.lo_af (s : State) : lo s.af = s.regs.f := lo_join _ _
@[simp] theorem State.hi_bc (s : State) : hi s.bc = s.regs.b := hi_join _ _
@[simp] theorem State.lo_bc (s : State) : lo s.bc = s.regs.c := lo_join _ _
@[simp] theorem State.hi_de (s : State) : hi s.de = s.regs.d := hi_join _ _
@[simp] theorem State.lo_de (s : State) : lo s.de = s.regs.e := lo_join _ _
@[simp] theorem State.hi_hl (s : State) : hi s.hl = s.regs.h := hi_join _ _
@[simp] theorem State.lo_hl (s : State) : lo s.hl = s.regs.l := lo_join _ _

/-- HL written from two bytes. -/
theorem State.setHL_join (s : State) (h l : Byte) : s.setHL (join h l) = { s with regs := { s.regs with h := h, l := l } } := by
  rw [State.setHL, hi_join, lo_join]

/-- A pair just written reads as written, and no other pair changed. -/
theorem State.pair_setPair (s : State) (p p' : Pair) (w : Word) : (s.setPair p w).pair p' = if p' = p then w else s.pair p' := by
  cases p <;> cases p' <;> simp [State.pair, State.setPair, State.bc, State.de, State.hl]

/-- A stack pair just written reads as written, and no other stack pair changed. -/
theorem State.stackPair_setStackPair (s : State) (q q' : StackPair) (w : Word) :
    (s.setStackPair q w).stackPair q' = if q' = q then w else s.stackPair q' := by
  cases q <;> cases q' <;> simp [State.stackPair, State.setStackPair, State.af, State.bc, State.de, State.hl]

/-! ## Loads -/

/-- Settles O35: each load is one write of a pair or an index register, and the last clause is `pair_setPair`. -/
theorem loadPairImmediate : Obligations.LoadPairImmediate :=
  ⟨fun p nn s => encode_exec_toInstr rfl (next_finish_eq (s.setPair_pc p nn)),
   fun _ _ => encode_exec_toInstr rfl rfl,
   fun _ _ => encode_exec_toInstr rfl rfl,
   fun _ => encode_exec_toInstr rfl rfl,
   fun _ _ => encode_exec_toInstr rfl rfl,
   fun p p' w s => s.pair_setPair p p' w⟩

/-- A word loaded into a pair: the permitted reads, then the pair and WZ. -/
theorem ldPairAbs_ok {s : State} {nn : Word} (h0 : s.canRead nn = true) (h1 : s.canRead (nn + 1) = true) (p : Pair) (len cost : Nat) :
    ldPairAbs p nn len cost s = .next
      ({ s.setPair p (join (s.peek (nn + 1)) (s.peek nn)) with wz := nn + 1 }.ended (s.pc + BitVec.ofNat 16 len) cost) :=
  (outcome_bind_ok (State.memRead16_ok h0 h1)).trans (next_finish_eq (s.setPair_pc p _))

/-- Settles O36: two permitted accesses go on by `outcome_bind_ok`, and HL's bytes are H and L. -/
theorem loadAndStoreWord : Obligations.LoadAndStoreWord := by
  refine ⟨fun nn s h0 h1 => encode_exec_toInstr rfl ((ldPairAbs_ok h0 h1 .HL 3 16).trans ?_),
    fun p _ _ h0 h1 => encode_exec_toInstr rfl (ldPairAbs_ok h0 h1 p 4 20),
    fun _ _ h0 h1 => encode_exec_toInstr rfl (outcome_bind_ok (State.memRead16_ok h0 h1)),
    fun _ _ h0 h1 => encode_exec_toInstr rfl (outcome_bind_ok (State.memRead16_ok h0 h1)),
    fun nn s h0 h1 => encode_exec_toInstr rfl ((outcome_bind_ok (State.memWrite16_ok h0 h1)).trans ?_),
    fun _ _ _ h0 h1 => encode_exec_toInstr rfl (outcome_bind_ok (State.memWrite16_ok h0 h1)),
    fun _ _ _ h0 h1 => encode_exec_toInstr rfl (outcome_bind_ok (State.memWrite16_ok h0 h1))⟩
  · rw [State.setPair, State.setHL_join]
    rfl
  · rw [State.pair, State.hi_hl, State.lo_hl]
    rfl

/-! ## The stack -/

/-- A pop into a pair: the word on top of the stack, SP two higher. -/
theorem popPair_ok {s : State} (h0 : s.canRead s.sp = true) (h1 : s.canRead (s.sp + 1) = true) (q : StackPair) :
    popPair q s = .next (({ s with sp := s.sp + 2 }.setStackPair q s.stackTop).ended (s.pc + 1) 10) :=
  (outcome_bind_ok (State.pop16_ok h0 h1)).trans (next_finish_eq (State.setStackPair_pc _ q _))

/-- A pop into an index register. -/
theorem popIndex_ok {s : State} (h0 : s.canRead s.sp = true) (h1 : s.canRead (s.sp + 1) = true) (x : Index) :
    popIndex x s = .next (({ s with sp := s.sp + 2 }.setIndex x s.stackTop).ended (s.pc + 2) 14) :=
  (outcome_bind_ok (State.pop16_ok h0 h1)).trans (next_finish_eq (State.setIndex_pc _ x _))

/-- Settles O37: a push goes on by `push16_ok`, a pop is `popPair_ok` or `popIndex_ok`, and one register write leaves the rest. -/
theorem pushAndPop : Obligations.PushAndPop := by
  refine ⟨fun _ _ h0 h1 => encode_exec_toInstr rfl (outcome_bind_ok (State.push16_ok h0 h1)),
    fun _ _ h0 h1 => encode_exec_toInstr rfl (outcome_bind_ok (State.push16_ok h0 h1)),
    fun q s h0 h1 => ⟨encode_toInstr _, _, (exec_toInstr _ s).trans (popPair_ok h0 h1 q), ?_, ?_, fun q' hne => ?_, ?_⟩,
    fun x s h0 h1 => ⟨encode_toInstr _, _, (exec_toInstr _ s).trans (popIndex_ok h0 h1 x), ?_, ?_, fun x' hne => ?_, ?_⟩⟩
  · exact (State.stackPair_setStackPair _ q q _).trans (if_pos rfl)
  · exact State.setStackPair_sp _ q _
  · exact (State.stackPair_setStackPair _ q q' _).trans (if_neg hne)
  · cases q <;> rfl
  · exact (State.index_setIndex _ x x _).trans (if_pos rfl)
  · exact State.setIndex_sp _ x _
  · exact (State.index_setIndex _ x x' _).trans (if_neg hne)
  · cases x <;> rfl

/-! ## Exchanges -/

/-- The state with DE and HL exchanged (R254). -/
def State.exchangeDeHl (s : State) : State :=
  { s with regs := { s.regs with d := s.regs.h, e := s.regs.l, h := s.regs.d, l := s.regs.e } }

/-- The state with AF and AF' exchanged (R255). -/
def State.exchangeAf (s : State) : State :=
  { s with regs := { s.regs with a := hi s.afAlt, f := lo s.afAlt }, afAlt := s.af }

/-- The state with BC, DE and HL exchanged with their alternates (R256). -/
def State.exchangeBanks (s : State) : State :=
  { s with
    regs := { s.regs with b := hi s.bcAlt, c := lo s.bcAlt, d := hi s.deAlt, e := lo s.deAlt, h := hi s.hlAlt, l := lo s.hlAlt }
    bcAlt := s.bc, deAlt := s.de, hlAlt := s.hl }

theorem runForm_exDeHl (s : State) : runForm .exDeHl s = .next (s.exchangeDeHl.ended (s.pc + 1) 4) := by
  rw [runForm, exDeHl, State.de, State.setHL_join, State.setDE, State.hi_hl, State.lo_hl]
  rfl

theorem runForm_exAf (s : State) : runForm .exAf s = .next (s.exchangeAf.ended (s.pc + 1) 4) := rfl

theorem runForm_exx (s : State) : runForm .exx s = .next (s.exchangeBanks.ended (s.pc + 1) 4) := rfl

/-! Each exchange undoes itself, whatever PC, the cycle count and the result were set to in between. -/

theorem State.exchangeDeHl_ended_exchangeDeHl (s : State) (pc : Word) (cost : Nat) :
    (s.exchangeDeHl.ended pc cost).exchangeDeHl = s.ended pc cost := rfl

theorem State.exchangeAf_ended_exchangeAf (s : State) (pc : Word) (cost : Nat) :
    (s.exchangeAf.ended pc cost).exchangeAf = s.ended pc cost := by
  simp [State.exchangeAf, State.ended, State.af]

theorem State.exchangeBanks_ended_exchangeBanks (s : State) (pc : Word) (cost : Nat) :
    (s.exchangeBanks.ended pc cost).exchangeBanks = s.ended pc cost := by
  simp [State.exchangeBanks, State.ended, State.bc, State.de, State.hl]

/-- The end of a step changes no register: PC is not among them. -/
theorem State.value_ended (s : State) (pc : Word) (cost : Nat) (n : RegName) : (s.ended pc cost).value n = s.value n := by
  cases n <;> rfl

/-- An exchange that undoes itself, made by two steps, leaves every register as it was. -/
theorem value_of_exchanged_twice {g : Form} {exchange : State → State}
    (hrun : ∀ s, runForm g s = .next ((exchange s).ended (s.pc + 1) 4))
    (hundo : ∀ s pc cost, exchange ((exchange s).ended pc cost) = s.ended pc cost)
    {s t u : State} (ht : exec g.toInstr s = .next t) (hu : exec g.toInstr t = .next u) (n : RegName) : u.value n = s.value n := by
  rw [exec_toInstr, hrun] at ht hu
  cases ht
  cases hu
  rw [hundo, State.value_ended, State.value_ended]

/-- The accesses of an exchange with the word on top of the stack: the word read, then the new bytes, high byte first (R257). -/
theorem State.swapTop_ok {s : State} (hr0 : s.canRead s.sp = true) (hr1 : s.canRead (s.sp + 1) = true)
    (hw1 : s.canWrite (s.sp + 1) = true) (hw0 : s.canWrite s.sp = true) (v : Word) :
    s.swapTop v = .ok (join (s.peek (s.sp + 1)) (s.peek s.sp), (s.poke (s.sp + 1) (hi v)).poke s.sp (lo v)) := by
  have hw : (s.poke (s.sp + 1) (hi v)).canWrite s.sp = true := hw0
  rw [State.swapTop, State.memRead16_ok hr0 hr1, State.memWrite_ok hw1]
  simp only [bind, Except.bind, State.memWrite_ok hw, pure, Except.pure]

/-- Settles O38: the three exchanges are the operations above and undo themselves, and those with the stack go on by `swapTop_ok`. -/
theorem exchanges : Obligations.Exchanges := by
  refine ⟨fun s => encode_exec_toInstr rfl (runForm_exDeHl s), fun s => encode_exec_toInstr rfl (runForm_exAf s),
    fun s => encode_exec_toInstr rfl (runForm_exx s), ?_,
    fun s hr0 hr1 hw1 hw0 => encode_exec_toInstr rfl ((outcome_bind_ok (State.swapTop_ok hr0 hr1 hw1 hw0 _)).trans ?_),
    fun _ hr0 hr1 hw1 hw0 => encode_exec_toInstr rfl (outcome_bind_ok (State.swapTop_ok hr0 hr1 hw1 hw0 _)),
    fun _ hr0 hr1 hw1 hw0 => encode_exec_toInstr rfl (outcome_bind_ok (State.swapTop_ok hr0 hr1 hw1 hw0 _))⟩
  · rintro g s t u (rfl | rfl | rfl)
    · exact value_of_exchanged_twice runForm_exDeHl State.exchangeDeHl_ended_exchangeDeHl
    · exact value_of_exchanged_twice runForm_exAf State.exchangeAf_ended_exchangeAf
    · exact value_of_exchanged_twice runForm_exx State.exchangeBanks_ended_exchangeBanks
  · simp only [State.hi_hl, State.lo_hl, State.setHL_join]
    rfl

end Sys2Proof.Machine
end

section
/-! 8-bit arithmetic and logic (R270 to R289): the bytes of each instruction and its next state. -/

namespace Sys2Proof.Machine

/-! ## The ALU operations -/

/-- The model's ALU operation is the rules' (R271 to R278): the two tables agree row by row. -/
theorem aluResult_eq_aluSpec (op : AluOp) (a v f : Byte) : aluResult op a v f = aluSpec op a v f := by
  cases op <;> rfl

/-- An ALU operation replaces A and F alone. -/
theorem State.alu_eq_withAF (s : State) (op : AluOp) (v : Byte) : s.alu op v = s.withAF (aluSpec op s.regs.a v s.regs.f) := by
  rw [← aluResult_eq_aluSpec]
  rfl

/-- A step that ends with an ALU operation. -/
theorem next_alu_finish (s : State) (op : AluOp) (v : Byte) (len cost : Nat) :
    (.next ((s.alu op v).finish len cost) : Result) =
      .next ((s.withAF (aluSpec op s.regs.a v s.regs.f)).ended (s.pc + BitVec.ofNat 16 len) cost) := by
  rw [State.alu_eq_withAF]
  rfl

/-- Settles O39: each operand, once read, ends the step as `next_alu_finish` says, for `(xy+d)` in the state with WZ set. -/
theorem aluOperations : Obligations.AluOperations :=
  ⟨fun op _ s => encode_exec_toInstr rfl (next_alu_finish s op _ 1 4),
   fun op s hread => encode_exec_toInstr rfl ((outcome_memRead_bind hread).trans (next_alu_finish s op _ 1 7)),
   fun op _ s => encode_exec_toInstr rfl (next_alu_finish s op _ 2 7),
   fun op _ _ s => encode_exec_toInstr rfl (next_alu_finish s op _ 2 8),
   fun op x d s hread => encode_exec_toInstr rfl ((outcome_memRead_bind (s := s.setWZ (s.ea x d)) hread).trans
     (next_alu_finish (s.setWZ (s.ea x d)) op _ 3 19))⟩

/-! ## INC and DEC -/

/-- A step that ends with a half of an index register and F written. -/
theorem next_setHalf_setF_finish (s : State) (x : Index) (h : Half) (v f : Byte) (len cost : Nat) :
    (.next (((s.setHalf x h v).setF f).finish len cost) : Result) =
      .next ({ s.setHalf x h v with regs := { s.regs with f := f } }.ended (s.pc + BitVec.ofNat 16 len) cost) := by
  rw [next_finish_eq ((State.setF_pc _ f).trans (s.setHalf_pc x h v)), State.setF, State.setHalf_regs]

/-- A step that reads a byte, writes F from it and stores a new byte at the same address, where both accesses are permitted. -/
theorem outcome_modify_ok {s : State} {a : Word} (hread : s.canRead a = true) (hwrite : s.canWrite a = true)
    (op : Byte → Byte × Byte) (len cost : Nat) :
    outcome (s.memRead a >>= fun v => (s.setF (op v).2).memWrite a (op v).1 >>= fun t => pure (t.finish len cost)) =
      .next ({ s.poke a (op (s.peek a)).1 with regs := { s.regs with f := (op (s.peek a)).2 } }.ended
        (s.pc + BitVec.ofNat 16 len) cost) :=
  (outcome_memRead_bind hread).trans (outcome_memWrite_bind (s := s.setF (op (s.peek a)).2) hwrite)

/-- Settles O40: a register is one write, a half `next_setHalf_setF_finish`, a byte in memory `outcome_modify_ok`, for `(xy+d)` in the
state with WZ set. -/
theorem incrementAndDecrement : Obligations.IncrementAndDecrement :=
  ⟨fun _ _ => encode_exec_toInstr rfl rfl,
   fun _ _ => encode_exec_toInstr rfl rfl,
   fun x h s => encode_exec_toInstr rfl (next_setHalf_setF_finish s x h _ _ 2 8),
   fun x h s => encode_exec_toInstr rfl (next_setHalf_setF_finish s x h _ _ 2 8),
   fun s hread hwrite => encode_exec_toInstr rfl (outcome_modify_ok hread hwrite (inc8 · s.regs.f) 1 11),
   fun s hread hwrite => encode_exec_toInstr rfl (outcome_modify_ok hread hwrite (dec8 · s.regs.f) 1 11),
   fun x d s hread hwrite => encode_exec_toInstr rfl
     (outcome_modify_ok (s := s.setWZ (s.ea x d)) hread hwrite (inc8 · s.regs.f) 3 23),
   fun x d s hread hwrite => encode_exec_toInstr rfl
     (outcome_modify_ok (s := s.setWZ (s.ea x d)) hread hwrite (dec8 · s.regs.f) 3 23)⟩

/-! ## Adjustments of the accumulator -/

/-- The difference without a borrow in is the difference modulo 2^8 (R162). -/
theorem sub8_false_fst (a v : Byte) : (sub8 a v false).1 = a - v := by
  apply BitVec.eq_of_toNat_eq
  rw [toNat_sub8, BitVec.toNat_sub, Bool.toNat_false]
  omega

theorem runForm_cpl (s : State) : runForm .cpl s =
    .next ((s.withAF (~~~ s.regs.a, (s.regs.f &&& 0xC5) ||| (~~~ s.regs.a &&& 0x28) ||| 0x12)).ended (s.pc + 1) 4) := by
  have hcomplement : s.a ^^^ 0xFF = ~~~ s.regs.a := BitVec.xor_allOnes
  rw [runForm, execCpl, hcomplement]
  rfl

theorem runForm_neg (s : State) :
    runForm .neg s = .next ((s.withAF (0 - s.regs.a, (sub8 0 s.regs.a false).2)).ended (s.pc + 2) 8) := by
  rw [runForm, execNeg, sub8_false_fst]
  rfl

/-- Settles O41: CPL and NEG are `runForm_cpl` and `runForm_neg`, and the other three are as the rules write them. -/
theorem accumulatorAdjustments : Obligations.AccumulatorAdjustments :=
  ⟨fun _ => encode_exec_toInstr rfl rfl,
   fun s => encode_exec_toInstr rfl (runForm_cpl s),
   fun s => encode_exec_toInstr rfl (runForm_neg s),
   fun _ => encode_exec_toInstr rfl rfl,
   fun _ => encode_exec_toInstr rfl rfl⟩

end Sys2Proof.Machine
end

section
/-! 16-bit arithmetic (R300 to R307): the bytes of each instruction and its next state. -/

namespace Sys2Proof.Machine

/-- A step that ends with WZ at the old HL plus one and HL and F from a result (R300 to R302). -/
theorem next_setWZ_setHL_setF_finish (s : State) (p : Word × Byte) (len cost : Nat) :
    (.next ((((s.setWZ (s.hl + 1)).setHL p.1).setF p.2).finish len cost) : Result) =
      .next ((s.withHlF p).ended (s.pc + BitVec.ofNat 16 len) cost) := rfl

/-- Settles O44: HL and F change as `next_setWZ_setHL_setF_finish` says, each index register is a write of its own field, and INC and DEC
are one write of a pair or an index register, which keeps PC. -/
theorem wordArithmetic : Obligations.WordArithmetic :=
  ⟨fun p s => encode_exec_toInstr rfl (next_setWZ_setHL_setF_finish s (add16 s.hl (s.pair p) s.f) 1 11),
   fun p s => encode_exec_toInstr rfl (next_setWZ_setHL_setF_finish s (adc16 s.hl (s.pair p) (flagC s.f)) 2 15),
   fun p s => encode_exec_toInstr rfl (next_setWZ_setHL_setF_finish s (sbc16 s.hl (s.pair p) (flagC s.f)) 2 15),
   fun _ _ => encode_exec_toInstr rfl rfl,
   fun _ _ => encode_exec_toInstr rfl rfl,
   fun p s => encode_exec_toInstr rfl (next_finish_eq (s.setPair_pc p _)),
   fun p s => encode_exec_toInstr rfl (next_finish_eq (s.setPair_pc p _)),
   fun x s => encode_exec_toInstr rfl (next_finish_eq (s.setIndex_pc x _)),
   fun x s => encode_exec_toInstr rfl (next_finish_eq (s.setIndex_pc x _))⟩

end Sys2Proof.Machine
end

section
/-! Rotates, shifts and bits (R320 to R340): the bytes of each instruction and its next state. -/

namespace Sys2Proof.Machine

/-! ## The accumulator (R321 to R324) -/

theorem rotResult_rlc (v : Byte) (c : Bool) : rotResult .rlc v c = v.rotateLeft 1 := by
  ext j hj
  rw [← BitVec.getLsbD_eq_getElem hj, getLsbD_rotResult .rlc v c hj, BitVec.getElem_rotateLeft hj]
  by_cases h : j = 0
  · simp [h, rotLeft, rotIn, BitVec.getLsbD_eq_getElem]
  · simp [h, rotLeft, BitVec.getLsbD_eq_getElem (show j - 1 < 8 by omega)]

theorem rotResult_rrc (v : Byte) (c : Bool) : rotResult .rrc v c = v.rotateRight 1 := by
  ext j hj
  rw [← BitVec.getLsbD_eq_getElem hj, getLsbD_rotResult .rrc v c hj, BitVec.getElem_rotateRight hj]
  by_cases h : j = 7
  · simp [h, rotLeft, rotIn, BitVec.getLsbD_eq_getElem]
  · have hlt : j < 7 := by omega
    simp [h, hlt, rotLeft, Nat.add_comm, BitVec.getLsbD_eq_getElem (show j + 1 < 8 by omega)]

/-- The flags of an accumulator rotate are the rules': of the rotate's own flags only C is taken. -/
theorem accRotFlags_rot8 (r f v : Byte) (k : RotOp) (c : Bool) :
    accRotFlags r (rot8 k v c).2 f = accRotFlagsSpec r (rotCarry k v) f := by
  have hcarry : (rot8 k v c).2 &&& 0x01 = bitIf (rotCarry k v) 0x01 := by
    ext j hj
    by_cases h : j = 0 <;> simp [h, rot8, sz53p]
  rw [accRotFlags, hcarry]
  rfl

/-- An accumulator rotate replaces A and F alone. -/
theorem runForm_accRot (k : AccRot) (s : State) {r : Byte} (h : rotResult (accRotOp k) s.regs.a (flagC s.regs.f) = r) :
    runForm (.accRot k) s =
      .next ((s.withAF (r, accRotFlagsSpec r (rotCarry (accRotOp k) s.regs.a) s.regs.f)).ended (s.pc + 1) 4) := by
  subst h
  rw [← accRotFlags_rot8 _ _ _ _ (flagC s.regs.f)]
  rfl

/-- Settles O46: `runForm_accRot`, with A as `rotResult_rlc` and `rotResult_rrc` say, or bit by bit for the rotates through the carry. -/
theorem accumulatorRotates : Obligations.AccumulatorRotates :=
  ⟨fun s => encode_exec_toInstr rfl (runForm_accRot .rlca s (rotResult_rlc _ _)),
   fun s => encode_exec_toInstr rfl (runForm_accRot .rrca s (rotResult_rrc _ _)),
   fun s => ⟨_, fun _ hj => getLsbD_rotResult .rl s.regs.a (flagC s.regs.f) hj,
     encode_exec_toInstr rfl (runForm_accRot .rla s rfl)⟩,
   fun s => ⟨_, fun _ hj => getLsbD_rotResult .rr s.regs.a (flagC s.regs.f) hj,
     encode_exec_toInstr rfl (runForm_accRot .rra s rfl)⟩⟩

/-! ## The operand forms -/

/-- As `outcome_modify_ok`, with the stored byte copied to a register at the end if the instruction names one (R340). -/
theorem outcome_modify_copy_ok {s : State} {a : Word} (hread : s.canRead a = true) (hwrite : s.canWrite a = true)
    (op : Byte → Byte × Byte) (copy : Option Reg8) (len cost : Nat) :
    outcome (s.memRead a >>= fun v => (s.setF (op v).2).memWrite a (op v).1 >>= fun t =>
        pure ((t.copyTo copy (op v).1).finish len cost)) =
      .next ({ s.poke a (op (s.peek a)).1 with
        regs := copiedTo copy (op (s.peek a)).1 { s.regs with f := (op (s.peek a)).2 } }.ended
          (s.pc + BitVec.ofNat 16 len) cost) := by
  rw [outcome_memRead_bind hread, outcome_memWrite_bind (s := s.setF (op (s.peek a)).2) hwrite]
  cases copy <;> rfl

/-- Settles O47: a register is one write, (HL) `outcome_modify_ok`, `(xy+d)` `outcome_modify_copy_ok` in the state with WZ set. -/
theorem rotatesAndShifts : Obligations.RotatesAndShifts :=
  ⟨fun _ _ _ => encode_exec_toInstr rfl rfl,
   fun k s hread hwrite => encode_exec_toInstr rfl (outcome_modify_ok hread hwrite (rot8 k · (flagC s.regs.f)) 2 15),
   fun k x d copy s hread hwrite => encode_exec_toInstr rfl
     (outcome_modify_copy_ok (s := s.setWZ (s.ea x d)) hread hwrite (rot8 k · (flagC s.regs.f)) copy 4 23)⟩

/-! ## One bit of a byte -/

theorem ofNat_two_pow (n : Nat) : BitVec.ofNat 8 (2 ^ n) = BitVec.twoPow 8 n := by
  apply BitVec.eq_of_toNat_eq
  rw [BitVec.toNat_ofNat, BitVec.toNat_twoPow]

theorem bitMask_eq_twoPow (b : BitNo) : bitMask b = BitVec.twoPow 8 b.num := by
  rw [bitMask, Nat.one_shiftLeft, ofNat_two_pow]

theorem bitMask_ne_zero (b : BitNo) : bitMask b ≠ 0 := by
  cases b <;> decide

/-- A masked byte is zero just where the bit is clear. -/
theorem and_bitMask_beq_zero (b : BitNo) (v : Byte) : (v &&& bitMask b == 0) = !v.getLsbD b.num := by
  have hmask : v &&& bitMask b = if v.getLsbD b.num then bitMask b else 0 := by
    rw [bitMask_eq_twoPow]
    exact BitVec.and_twoPow v b.num
  rw [hmask]
  cases v.getLsbD b.num
  · rfl
  · exact beq_eq_false_iff_ne.mpr (bitMask_ne_zero b)

/-- BIT's flags are the rules' (R180): Z and PV where the bit is clear, S where it is bit 7 and set. -/
theorem bit8_eq_bitSpec (b : BitNo) (v xy f : Byte) : bit8 b v xy f = bitSpec b.num v xy f := by
  have hsign : (b.num == 7 && v.getLsbD b.num) = decide (b.num = 7 ∧ v.getLsbD 7 = true) := by
    by_cases h : b.num = 7 <;> simp [h]
  have hzero : bitIf (!v.getLsbD b.num) 0x44 = if v.getLsbD b.num then 0x00 else 0x44 := by
    cases v.getLsbD b.num <;> rfl
  rw [bitSpec, ← hzero]
  simp only [bit8, bne, and_bitMask_beq_zero, Bool.not_not, hsign, bitIf, decide_eq_true_eq]

/-- Settles O49: the operand, once read, sets F alone, as `bit8_eq_bitSpec` says, for `(xy+d)` in the state with WZ set. -/
theorem bitTest : Obligations.BitTest := by
  refine ⟨fun b r s => ?_, fun b s hread => ?_, fun b x d z s hread => ?_⟩ <;> rw [← bit8_eq_bitSpec]
  · exact encode_exec_toInstr rfl rfl
  · exact encode_exec_toInstr rfl (outcome_memRead_bind hread)
  · exact encode_exec_toInstr rfl (outcome_memRead_bind (s := s.setWZ (s.ea x d)) hread)

/-- The bytes of the set bits, joined, have just those bits. -/
theorem getElem_foldl_or_bits (p : Nat → Bool) (n : Nat) {j : Nat} (hj : j < 8) :
    ((List.range n).foldl (fun acc k => acc ||| (if p k then BitVec.ofNat 8 (2 ^ k) else 0)) (0 : Byte))[j] =
      (decide (j < n) && p j) := by
  induction n with
  | zero => simp
  | succ n ih =>
    have hbit : (if p n then BitVec.ofNat 8 (2 ^ n) else 0 : Byte)[j] = (decide (j = n) && p n) := by
      rw [ofNat_two_pow]
      cases p n <;> simp [BitVec.getElem_twoPow]
    rw [List.range_succ, List.foldl_append, List.foldl_cons, List.foldl_nil, BitVec.getElem_or, ih, hbit]
    by_cases h : j = n
    · simp [h]
    · have hlt : j < n + 1 ↔ j < n := by omega
      simp [h, hlt]

/-- The rules' byte with one bit changed, bit by bit (R181, R182). -/
theorem getElem_withBit (v : Byte) (b : Nat) (set : Bool) {j : Nat} (hj : j < 8) :
    (withBit v b set)[j] = if j = b then set else v[j] := by
  rw [withBit, getElem_foldl_or_bits (fun k => if k = b then set else v.getLsbD k) 8 hj]
  simp [hj]

/-- SET and RES make the rules' byte (R181, R182). -/
theorem changeBit_eq_withBit (set : Bool) (b : BitNo) (v : Byte) : changeBit set b v = withBit v b.num set := by
  ext j hj
  rw [getElem_withBit v b.num set hj]
  have hmask : (bitMask b)[j] = decide (j = b.num) := by rw [bitMask_eq_twoPow, BitVec.getElem_twoPow]
  by_cases h : j = b.num
  · subst h
    cases set <;> simp [changeBit, set8, res8, hmask]
  · cases set <;> simp [changeBit, set8, res8, hmask, h]

/-- Settles O50: the byte is `changeBit_eq_withBit`'s; in memory SET and RES store as the rotates do, with F written back as it was. -/
theorem setAndReset : Obligations.SetAndReset := by
  refine ⟨fun set b r s => ?_, fun set b s hread hwrite => ?_, fun set b x d copy s hread hwrite => ?_⟩ <;>
    rw [← changeBit_eq_withBit]
  · exact encode_exec_toInstr (by cases set <;> rfl) (next_finish_eq (s.setReg_pc r _))
  · exact encode_exec_toInstr (by cases set <;> rfl) (outcome_modify_ok hread hwrite (fun v => (changeBit set b v, s.regs.f)) 2 15)
  · exact encode_exec_toInstr (by cases set <;> rfl)
      (outcome_modify_copy_ok (s := s.setWZ (s.ea x d)) hread hwrite (fun v => (changeBit set b v, s.regs.f)) copy 4 23)

/-! ## Digits (R338, R339) -/

/-- A byte of two digits, from its high and its low part. -/
theorem or_eq_nibbles {u v : Byte} {h l : BitVec 4} (hu : u = nibbles h 0) (hv : v = nibbles 0 l) : u ||| v = nibbles h l := by
  calc u ||| v = (h ||| 0#4) ++ (0#4 ||| l) := by
        rw [hu, hv]
        exact BitVec.or_append
    _ = nibbles h l := by
        rw [BitVec.or_zero, BitVec.zero_or]
        rfl

theorem shiftLeft_four_eq_nibbles : ∀ v : Byte, v <<< 4 = nibbles (loNibble v) 0 := by
  decide

theorem ushiftRight_four_eq_nibbles : ∀ v : Byte, v >>> 4 = nibbles 0 (hiNibble v) := by
  decide

theorem and_high_digit_eq_nibbles : ∀ v : Byte, v &&& 0xF0 = nibbles (hiNibble v) 0 := by
  decide

theorem and_low_digit_eq_nibbles : ∀ v : Byte, v &&& 0x0F = nibbles 0 (loNibble v) := by
  decide

theorem rldByte_eq_nibbles (t a : Byte) : rldByte t a = nibbles (loNibble t) (loNibble a) :=
  or_eq_nibbles (shiftLeft_four_eq_nibbles t) (and_low_digit_eq_nibbles a)

theorem rldAcc_eq_nibbles (t a : Byte) : rldAcc t a = nibbles (hiNibble a) (hiNibble t) :=
  or_eq_nibbles (and_high_digit_eq_nibbles a) (ushiftRight_four_eq_nibbles t)

theorem rrdByte_eq_nibbles (t a : Byte) : rrdByte t a = nibbles (loNibble a) (hiNibble t) :=
  or_eq_nibbles (shiftLeft_four_eq_nibbles a) (ushiftRight_four_eq_nibbles t)

theorem rrdAcc_eq_nibbles (t a : Byte) : rrdAcc t a = nibbles (hiNibble a) (loNibble t) :=
  or_eq_nibbles (and_high_digit_eq_nibbles a) (and_low_digit_eq_nibbles t)

/-- Settles O51: the byte read, then the byte stored, and both new bytes are the digits the rules name. -/
theorem digitRotates : Obligations.DigitRotates := by
  refine ⟨fun s hread hwrite => ?_, fun s hread hwrite => ?_⟩
  · rw [← rldByte_eq_nibbles, ← rldAcc_eq_nibbles]
    exact encode_exec_toInstr rfl ((outcome_memRead_bind hread).trans (outcome_memWrite_bind hwrite))
  · rw [← rrdByte_eq_nibbles, ← rrdAcc_eq_nibbles]
    exact encode_exec_toInstr rfl ((outcome_memRead_bind hread).trans (outcome_memWrite_bind hwrite))

end Sys2Proof.Machine
end

section
/-! Control transfer (R360 to R373): the bytes of each instruction and its next state. -/

namespace Sys2Proof.Machine

/-- The model's conditions are the rules' (R116). -/
theorem condHolds_eq_condSpec (cc : Cond) (f : Byte) : condHolds cc f = condSpec cc f := by
  cases cc with
  | Z | C | PE | M => exact Bool.decide_eq_true.symm
  | NZ | NC | PO | P => exact Bool.decide_eq_false.symm

/-! ## Jumps -/

/-- `JP cc,nn` writes WZ whatever the condition, which decides PC alone (R361). -/
theorem jpCond_eq_ended (cc : Cond) (nn : Word) (s : State) : jpCond cc nn s =
    .next (({ s with wz := nn }).ended (if condSpec cc s.regs.f then nn else s.pc + 3) 10) := by
  rw [jpCond, State.f, condHolds_eq_condSpec]
  cases condSpec cc s.regs.f <;> rfl

/-- `JR cc,e` writes WZ only when it jumps (R363). -/
theorem jrCond_eq_ended (cc : JrCond) (e : Byte) (s : State) : jrCond cc e s =
    .next (if condSpec cc.cond s.regs.f then ({ s with wz := s.pc + 2 + sext e }).ended (s.pc + 2 + sext e) 12
      else s.ended (s.pc + 2) 7) := by
  rw [jrCond, State.f, condHolds_eq_condSpec]
  cases condSpec cc.cond s.regs.f <;> rfl

theorem execDjnz_e_of_b_ne_one {s : State} (h : s.regs.b ≠ 1) (e : Byte) :
    execDjnz_e e s = .next ((s.setReg .B (s.regs.b - 1)).jumpRel e 13) := by
  rw [execDjnz_e_eq_ite, if_pos (bne_iff_ne.mpr h)]

theorem execDjnz_e_of_b_eq_one {s : State} (h : s.regs.b = 1) (e : Byte) :
    execDjnz_e e s = .next ((s.setReg .B 0).finish 2 8) := by
  rw [execDjnz_e_eq_ite, h]
  rfl

/-- Settles O52: a conditional jump is `jpCond_eq_ended` or `jrCond_eq_ended`, DJNZ jumps unless B was one, and the other jumps set PC and
WZ as the rules write them. -/
theorem jumps : Obligations.Jumps :=
  ⟨fun _ _ => encode_exec_toInstr rfl rfl,
   fun cc nn s => encode_exec_toInstr rfl (jpCond_eq_ended cc nn s),
   fun _ _ => encode_exec_toInstr rfl rfl,
   fun cc e s => encode_exec_toInstr rfl (jrCond_eq_ended cc e s),
   fun _ => encode_exec_toInstr rfl rfl,
   fun _ _ => encode_exec_toInstr rfl rfl,
   fun e _ hb => encode_exec_toInstr rfl (execDjnz_e_of_b_ne_one hb e),
   fun e _ hb => encode_exec_toInstr rfl (execDjnz_e_of_b_eq_one hb e)⟩

/-! ## Calls and returns -/

/-- The accesses of a taken call: the address after it pushed, high byte first (R367). -/
theorem State.callTo_ok {s : State} (h0 : s.canWrite (s.sp - 1) = true) (h1 : s.canWrite (s.sp - 2) = true) (nn : Word) :
    s.callTo nn = .ok (({ (s.poke (s.sp - 1) (hi (s.pc + 3))).poke (s.sp - 2) (lo (s.pc + 3)) with
      sp := s.sp - 2, wz := nn }).ended nn 17) := by
  rw [State.callTo, State.push16_ok (s := s.setWZ nn) h0 h1]
  rfl

/-- The accesses of a taken return: the word on top of the stack popped into WZ and PC (R369). -/
theorem State.retWith_ok {s : State} (h0 : s.canRead s.sp = true) (h1 : s.canRead (s.sp + 1) = true) (cost : Nat) :
    s.retWith cost = .ok (({ s with sp := s.sp + 2, wz := s.stackTop }).ended s.stackTop cost) := by
  rw [State.retWith, State.pop16_ok h0 h1]
  rfl

theorem callCond_taken {cc : Cond} {s : State} (h : condSpec cc s.regs.f = true) (nn : Word) :
    callCond cc nn s = outcome (s.callTo nn) :=
  if_pos ((condHolds_eq_condSpec cc s.regs.f).trans h)

theorem callCond_not_taken {cc : Cond} {s : State} (h : condSpec cc s.regs.f = false) (nn : Word) :
    callCond cc nn s = .next (({ s with wz := nn }).ended (s.pc + 3) 10) :=
  if_neg (ne_true_of_eq_false ((condHolds_eq_condSpec cc s.regs.f).trans h))

theorem retCond_taken {cc : Cond} {s : State} (h : condSpec cc s.regs.f = true) : retCond cc s = outcome (s.retWith 11) :=
  if_pos ((condHolds_eq_condSpec cc s.regs.f).trans h)

theorem retCond_not_taken {cc : Cond} {s : State} (h : condSpec cc s.regs.f = false) :
    retCond cc s = .next (s.ended (s.pc + 1) 5) :=
  if_neg (ne_true_of_eq_false ((condHolds_eq_condSpec cc s.regs.f).trans h))

/-- Settles O53: a taken call is `callTo_ok` and a taken return `retWith_ok`, RST pushes by `push16_ok`, and a call or return not taken
makes no access. -/
theorem callsAndReturns : Obligations.CallsAndReturns :=
  ⟨fun nn _ h0 h1 => encode_exec_toInstr rfl (congrArg outcome (State.callTo_ok h0 h1 nn)),
   fun _ nn _ htaken h0 h1 =>
     encode_exec_toInstr rfl ((callCond_taken htaken nn).trans (congrArg outcome (State.callTo_ok h0 h1 nn))),
   fun _ nn _ hnot => encode_exec_toInstr rfl (callCond_not_taken hnot nn),
   fun _ _ h0 h1 => encode_exec_toInstr rfl (outcome_bind_ok (State.push16_ok h0 h1)),
   fun _ h0 h1 => encode_exec_toInstr rfl (congrArg outcome (State.retWith_ok h0 h1 10)),
   fun _ _ htaken h0 h1 =>
     encode_exec_toInstr rfl ((retCond_taken htaken).trans (congrArg outcome (State.retWith_ok h0 h1 11))),
   fun _ _ hnot => encode_exec_toInstr rfl (retCond_not_taken hnot),
   fun _ h0 h1 => encode_exec_toInstr rfl (outcome_bind_ok (State.retWith_ok h0 h1 14)),
   fun _ h0 h1 => encode_exec_toInstr rfl (congrArg outcome (State.retWith_ok h0 h1 14))⟩

end Sys2Proof.Machine
end

section
/-! Block transfer, search and I/O (R390 to R406): the bytes of each instruction, the next state of one iteration, and its flags by
their meaning (R184 to R186). -/

namespace Sys2Proof.Machine

/-! ## The end of an iteration (R390) -/

theorem State.blockEnd_eq_blockEnded (s : State) (again : Bool) : s.blockEnd again = blockEnded again false s := by
  cases again <;> rfl

theorem State.blockEndWZ_eq_blockEnded (s : State) (again : Bool) : s.blockEndWZ again = blockEnded again true s := by
  cases again <;> rfl

/-! ## Moves and compares (R391 to R398) -/

theorem runForm_moveOp (down rep : Bool) (s : State) : runForm (.block (moveOp down rep)) s = blockMove down rep s := by
  cases down <;> cases rep <;> rfl

theorem runForm_compareOp (down rep : Bool) (s : State) : runForm (.block (compareOp down rep)) s = blockCompare down rep s := by
  cases down <;> cases rep <;> rfl

/-- One iteration of a move: the permitted read, then the permitted write (R391 to R394). -/
theorem blockMove_ok {s : State} (hread : s.canRead s.hl = true) (hwrite : s.canWrite s.de = true) (down rep : Bool) :
    blockMove down rep s = .next
      (blockEnded (rep && s.bc - 1 != 0) true { s.poke s.de (s.peek s.hl) with
        regs := { s.regs with
          b := hi (s.bc - 1), c := lo (s.bc - 1)
          d := hi (stepBy down s.de), e := lo (stepBy down s.de), h := hi (stepBy down s.hl), l := lo (stepBy down s.hl)
          f := blockmoveFlags s.regs.a (s.peek s.hl) (s.bc - 1) s.regs.f } }) := by
  rw [← State.blockEndWZ_eq_blockEnded]
  exact (outcome_memRead_bind hread).trans (outcome_memWrite_bind hwrite)

/-- One iteration of a compare: it goes on while the byte differs from A, which is Z clear in the flags it makes (R395 to R398). -/
theorem blockCompare_ok {s : State} (hread : s.canRead s.hl = true) (down rep : Bool) :
    blockCompare down rep s = .next
      (blockEnded (rep && s.bc - 1 != 0 && s.regs.a != s.peek s.hl) true { s with
        wz := stepBy down s.wz
        regs := { s.regs with
          b := hi (s.bc - 1), c := lo (s.bc - 1), h := hi (stepBy down s.hl), l := lo (stepBy down s.hl)
          f := blockcmpFlags s.regs.a (s.peek s.hl) (s.bc - 1) s.regs.f } }) := by
  have hdiffers : (s.regs.a != s.peek s.hl) = !flagZ (blockcmpFlags s.regs.a (s.peek s.hl) (s.bc - 1) s.regs.f) := by
    rw [flagZ_blockcmpFlags, bne]
  rw [← State.blockEndWZ_eq_blockEnded, hdiffers]
  exact outcome_memRead_bind hread

/-- The half-carry entry of a difference is its borrow out of bit 3, the H that SUB makes (R155, R162). -/
theorem hEntry_halfcarrySub_sub (a v : Byte) :
    hEntry halfcarrySub (r12 (a - v) a v 3 7) = bitIf (decide (a.toNat % 16 < v.toNat % 16)) 0x10 := by
  have hborrow : flagH (sub8 a v false).2 = decide (a.toNat % 16 < v.toNat % 16) := by
    rw [Bool.eq_iff_iff, decide_eq_true_eq, flagH_sub8, Bool.toNat_false, Nat.add_zero]
  rw [hEntry_halfcarrySub, ← hborrow, ← sub8_false_fst]
  simp [flagH, sub8]

theorem bitIf_bne_zero (b : Bool) {mask : Byte} (h : mask ≠ 0) : (bitIf b mask != 0) = b := by
  cases b with
  | true => exact bne_iff_ne.mpr h
  | false => rfl

/-- A compare's flags with the borrow written as a comparison of the low digits (R185). -/
theorem blockcmpFlags_eq (a v : Byte) (bc : Word) (old : Byte) :
    blockcmpFlags a v bc old =
      (old &&& 0x01) ||| ((a - v) &&& 0x80) ||| bitIf (a - v == 0) 0x40 ||| bitIf (decide (a.toNat % 16 < v.toNat % 16)) 0x10 ||| 0x02
        ||| bitIf (bc != 0) 0x04 ||| ((a - v - (if a.toNat % 16 < v.toNat % 16 then 1 else 0)) &&& 0x08)
        ||| bitIf ((a - v - (if a.toNat % 16 < v.toNat % 16 then 1 else 0)).getLsbD 1) 0x20 := by
  simp only [blockcmpFlags, hEntry_halfcarrySub_sub, bitIf_bne_zero _ (show (0x10 : Byte) ≠ 0 by decide), decide_eq_true_eq]

/-- Settles O54: an iteration is `blockMove_ok` or `blockCompare_ok`; the bits of a move's flags, and of a compare's as `blockcmpFlags_eq`
writes them, are the rules'. -/
theorem blockMoveAndCompare : Obligations.BlockMoveAndCompare := by
  refine ⟨fun down rep s hread hwrite =>
      encode_exec_toInstr rfl ((runForm_moveOp down rep s).trans (blockMove_ok hread hwrite down rep)),
    fun down rep s hread => encode_exec_toInstr rfl ((runForm_compareOp down rep s).trans (blockCompare_ok hread down rep)),
    fun a v bc old => ?_, fun a v bc old => ?_⟩
  · simp [flagS, flagZ, flagC, flagH, flagN, flagPV, flagX, flagY, blockmoveFlags]
  · have hzero : flagZ (blockcmpFlags a v bc old) = true ↔ a = v := by rw [flagZ_blockcmpFlags, beq_iff_eq]
    simp only [hzero]
    simp [flagS, flagC, flagH, flagN, flagPV, flagX, flagY, blockcmpFlags_eq]

/-! ## A port access neither reads nor changes the registers and WZ (R81, R82) -/

/-- The state with this register file and this WZ. -/
def State.withRegsWZ (s : State) (g : RegFile) (w : Word) : State := { s with regs := g, wz := w }

theorem State.draw_withRegsWZ (s : State) (g : RegFile) (w : Word) (port : Byte) :
    (s.withRegsWZ g w).draw port = ((s.draw port).1, (s.draw port).2.withRegsWZ g w) := by
  simp only [State.draw, State.withRegsWZ]
  cases s.ioIn <;> rfl

theorem State.consoleArrival_withRegsWZ (s : State) (g : RegFile) (w : Word) (port : Byte) (c : Console) :
    (s.withRegsWZ g w).consoleArrival port c = ((s.consoleArrival port c).1, (s.consoleArrival port c).2.withRegsWZ g w) := by
  cases hbuffer : c.buffer with
  | some v => rw [State.consoleArrival_full hbuffer, State.consoleArrival_full hbuffer]
  | none =>
    simp only [State.consoleArrival, hbuffer, State.draw_withRegsWZ]
    split <;> rfl

/-- Every device and every draw supplies the same byte, whatever the registers and WZ. -/
theorem State.portRead_withRegsWZ (s : State) (g : RegFile) (w : Word) (port : Byte) :
    (s.withRegsWZ g w).portRead port = ((s.portRead port).1, (s.portRead port).2.withRegsWZ g w) := by
  have hslots : (s.withRegsWZ g w).slots = s.slots := rfl
  have hdevices : (s.withRegsWZ g w).devices = s.devices := rfl
  simp only [State.portRead, State.deviceRead, State.consoleDataRead, State.consoleStatusRead, hslots, hdevices,
    State.consoleArrival_withRegsWZ, State.draw_withRegsWZ]
  split
  · split
    · rfl
    · split
      · rfl
      · split <;> rfl
    · rfl
    · rfl
  · rfl

/-- Every device takes a byte the same way, whatever the registers and WZ. -/
theorem State.portWrite_withRegsWZ (s : State) (g : RegFile) (w : Word) (port v : Byte) :
    (s.withRegsWZ g w).portWrite port v = (s.portWrite port v).withRegsWZ g w := by
  have hslots : (s.withRegsWZ g w).slots = s.slots := rfl
  have hdevices : (s.withRegsWZ g w).devices = s.devices := rfl
  simp only [State.portWrite, State.deviceWrite, hslots, hdevices]
  split
  · split
    · rfl
    · split
      · rfl
      · split
        · split <;> rfl
        · rfl
    · rfl
    · rfl
  · rfl

theorem State.ioRead_setWZ (s : State) (w : Word) (port : Byte) :
    (s.setWZ w).ioRead port = ((s.ioRead port).1, (s.ioRead port).2.withRegsWZ s.regs w) := by
  have hport : (s.setWZ w).portRead port = ((s.portRead port).1, (s.portRead port).2.withRegsWZ s.regs w) :=
    s.portRead_withRegsWZ s.regs w port
  rw [State.ioRead, hport]
  rfl

theorem State.ioWrite_setReg_setWZ (s : State) (q : Reg8) (b : Byte) (w : Word) (port v : Byte) :
    ((s.setReg q b).setWZ w).ioWrite port v = (s.ioWrite port v).withRegsWZ (s.regs.set q b) w := by
  have hport : ((s.setReg q b).setWZ w).portWrite port v = (s.portWrite port v).withRegsWZ (s.regs.set q b) w :=
    s.portWrite_withRegsWZ (s.regs.set q b) w port v
  rw [State.ioWrite, hport]
  rfl

theorem State.ioRead_canWrite (s : State) (port : Byte) (a : Word) : (s.ioRead port).2.canWrite a = s.canWrite a := by
  rw [State.ioRead_frame]
  rfl

/-! ## Inputs and outputs (R399 to R406) -/

theorem runForm_inOp (down rep : Bool) (s : State) : runForm (.block (inOp down rep)) s = blockIn down rep s := by
  cases down <;> cases rep <;> rfl

theorem runForm_outOp (down rep : Bool) (s : State) : runForm (.block (outOp down rep)) s = blockOut down rep s := by
  cases down <;> cases rep <;> rfl

/-- One iteration of an input: the port is read before B is decremented and the byte stored, with WZ from the old BC (R399 to R402). -/
theorem blockIn_ok {s : State} (hwrite : s.canWrite s.hl = true) (down rep : Bool) :
    blockIn down rep s = .next
      (blockEnded (rep && s.regs.b - 1 != 0) false { (s.ioRead s.regs.c).2.poke s.hl (s.ioRead s.regs.c).1 with
        wz := stepBy down s.bc
        regs := { s.regs with
          b := s.regs.b - 1, h := hi (stepBy down s.hl), l := lo (stepBy down s.hl)
          f := blockioFlags (s.ioRead s.regs.c).1
            ((s.ioRead s.regs.c).1.toNat + (if down then s.regs.c - 1 else s.regs.c + 1).toNat) (s.regs.b - 1) } }) := by
  have hpermitted : (s.ioRead s.regs.c).2.canWrite s.hl = true := (s.ioRead_canWrite s.regs.c s.hl).trans hwrite
  rw [← State.blockEnd_eq_blockEnded]
  simp only [blockIn, State.ioRead_setWZ]
  exact outcome_memWrite_bind hpermitted

/-- One iteration of an output: the port is written after B is decremented, with WZ from the new BC (R403 to R406). -/
theorem blockOut_ok {s : State} (hread : s.canRead s.hl = true) (down rep : Bool) :
    blockOut down rep s = .next
      (blockEnded (rep && s.regs.b - 1 != 0) false { s.ioWrite s.regs.c (s.peek s.hl) with
        wz := stepBy down (join (s.regs.b - 1) s.regs.c)
        regs := { s.regs with
          b := s.regs.b - 1, h := hi (stepBy down s.hl), l := lo (stepBy down s.hl)
          f := blockioFlags (s.peek s.hl) ((s.peek s.hl).toNat + (lo (stepBy down s.hl)).toNat) (s.regs.b - 1) } }) := by
  rw [← State.blockEnd_eq_blockEnded]
  simp only [blockOut, State.ioWrite_setReg_setWZ]
  exact outcome_memRead_bind hread

/-- Settles O55: an iteration is `blockIn_ok` or `blockOut_ok`, and the bits of the flags are the rules'. -/
theorem blockInputOutput : Obligations.BlockInputOutput := by
  refine ⟨fun down rep s hwrite => encode_exec_toInstr rfl ((runForm_inOp down rep s).trans (blockIn_ok hwrite down rep)),
    fun down rep s hread => encode_exec_toInstr rfl ((runForm_outOp down rep s).trans (blockOut_ok hread down rep)),
    fun v k b => ?_⟩
  have hlow : k &&& 7 = k % 8 := Nat.and_two_pow_sub_one_eq_mod k 3
  simp [flagS, flagZ, flagC, flagH, flagN, flagPV, flagX, flagY, blockioFlags, hlow]

end Sys2Proof.Machine
end

section
/-! Port I/O and CPU control (R420 to R430): the bytes of each instruction and its next state, in every state. -/

namespace Sys2Proof.Machine

/-- The access leaves PC, and WZ written before it does not change what it answers. -/
theorem execIn_A_atn_eq (n : Byte) (s : State) :
    execIn_A_atn n s = .next (({ (s.ioRead n).2 with
      regs := { s.regs with a := (s.ioRead n).1 }, wz := join s.regs.a n + 1 }).ended (s.pc + 2) 11) := by
  simp only [execIn_A_atn, State.ioRead_setWZ]
  exact next_finish_eq (s.ioRead_clock n).1

theorem inReg_eq (r : Reg8) (s : State) :
    inReg r s = .next (({ (s.ioRead s.regs.c).2 with
      regs := { s.regs.set r (s.ioRead s.regs.c).1 with f := (s.regs.f &&& 0x01) ||| sz53p (s.ioRead s.regs.c).1 }
      wz := s.bc + 1 }).ended (s.pc + 2) 12) := by
  simp only [inReg, State.ioRead_setWZ]
  exact next_finish_eq (s.ioRead_clock s.regs.c).1

/-- Settles O57: an input is `execIn_A_atn_eq` or `inReg_eq`; an output writes WZ after the access, which leaves PC. -/
theorem portInputOutput : Obligations.PortInputOutput :=
  ⟨fun n s => encode_exec_toInstr rfl (execIn_A_atn_eq n s),
   fun r s => encode_exec_toInstr rfl (inReg_eq r s),
   fun n s => encode_exec_toInstr rfl (next_finish_eq (s.ioWrite_clock n s.a).1),
   fun r s => encode_exec_toInstr rfl (next_finish_eq (s.ioWrite_clock s.regs.c (s.reg r)).1)⟩

/-- Settles O59: each form's operation is by definition one write of the fields the rules name, then the end of a step, which for HALT is
the Halt condition. -/
theorem cpuControl : Obligations.CpuControl :=
  ⟨fun _ => encode_exec_toInstr rfl rfl,
   fun _ => encode_exec_toInstr rfl rfl,
   fun _ => encode_exec_toInstr rfl rfl,
   fun _ => encode_exec_toInstr rfl rfl,
   fun _ => encode_exec_toInstr rfl rfl,
   fun _ => encode_exec_toInstr rfl rfl,
   fun _ => encode_exec_toInstr rfl rfl⟩

end Sys2Proof.Machine
end

section
/-! What a form may change, which accesses it makes and what it reports, in one statement: the tables of Safety.lean bound every form's
operation. -/

namespace Sys2Proof.Machine

/-! ## What may change -/

/-- What an instruction may change beside PC and the cycle count, and the condition it reports when it completes. -/
structure Effect where
  regs : List RegName
  flags : Byte
  stores : List Word
  ports : Bool
  result : StepResult

/-- The condition a form reports when it completes: `Halt` for HALT, `Ok` for every other (R450, R453). -/
def formResult (g : Form) (s : State) : StepResult :=
  match g with
  | .halt => .halt s.pc
  | _ => .ok

/-- The effect the tables of Safety.lean give a form. -/
def formEffect (g : Form) (s : State) : Effect := ⟨formWrites g, formFlags g, formStores g s, formUsesPorts g, formResult g s⟩

/-- The registers and flags of `t` are those of `s` but for the effect's. -/
structure CpuChanges (E : Effect) (s t : State) : Prop where
  regs : ∀ n, n ∉ E.regs → t.value n = s.value n
  flags : t.regs.f &&& ~~~ E.flags = s.regs.f &&& ~~~ E.flags
  im : s.im ≠ 3 → t.im ≠ 3

/-- Memory, ports and configuration of `t` are those of `s` but for the bytes the effect stores and, if it uses ports, the devices and
the environment. -/
structure BusChanges (E : Effect) (s t : State) : Prop where
  pages : t.pages = s.pages
  config : t.slots = s.slots ∧ t.mode = s.mode ∧ t.breakpoints = s.breakpoints ∧ t.debugFlag = s.debugFlag
    ∧ t.shutdownReasons = s.shutdownReasons ∧ t.devices.length = s.devices.length
  wf : Memory.wf s.mem = true → Memory.wf t.mem = true
  mem : ∀ a, a ∉ E.stores → t.peek a = s.peek a
  ports : E.ports = false → t.devices = s.devices ∧ t.ioIn = s.ioIn ∧ t.ioDraws = s.ioDraws ∧ t.ioTrace = s.ioTrace

/-- Only what the effect names has changed from `s` to `t`. -/
structure Changes (E : Effect) (s t : State) : Prop where
  cpu : CpuChanges E s t
  bus : BusChanges E s t

/-- The state without its registers, PC, cycle count and result. -/
def State.besideCpu (s : State) : State :=
  { s with
    regs := RegFile.zero, afAlt := 0, bcAlt := 0, deAlt := 0, hlAlt := 0, ix := 0, iy := 0, sp := 0, pc := 0, wz := 0, i := 0, r := 0
    im := 0, iff1 := false, iff2 := false, cycles := 0, result := .ok }

variable {E : Effect} {s t u : State}

theorem Changes.refl (E : Effect) (s : State) : Changes E s s :=
  ⟨⟨fun _ _ => rfl, rfl, id⟩, ⟨rfl, ⟨rfl, rfl, rfl, rfl, rfl, rfl⟩, id, fun _ _ => rfl, fun _ => ⟨rfl, rfl, rfl, rfl⟩⟩⟩

/-- A write of registers named by the effect. -/
theorem Changes.registers (h : Changes E s t) (hbus : u.besideCpu = t.besideCpu) (hregs : ∀ n, n ∉ E.regs → u.value n = t.value n)
    (hflags : u.regs.f &&& ~~~ E.flags = t.regs.f &&& ~~~ E.flags) (him : t.im ≠ 3 → u.im ≠ 3) : Changes E s u where
  cpu := ⟨fun n hn => (hregs n hn).trans (h.cpu.regs n hn), hflags.trans h.cpu.flags, him ∘ h.cpu.im⟩
  bus :=
    have hchanges : BusChanges E s t.besideCpu := ⟨h.bus.pages, h.bus.config, h.bus.wf, h.bus.mem, h.bus.ports⟩
    have htransported : BusChanges E s u.besideCpu := hbus ▸ hchanges
    ⟨htransported.pages, htransported.config, htransported.wf, htransported.mem, htransported.ports⟩

/-! ## The writes of registers -/

theorem State.setReg_f (s : State) (q : Reg8) (v : Byte) : (s.setReg q v).regs.f = s.regs.f := by
  cases q <;> rfl

theorem Changes.setReg (h : Changes E s t) {q : Reg8} {v : Byte}
    (hq : regOf q ∈ E.regs := by simp [formEffect, formWrites, blockRegs]) :
    Changes E s (t.setReg q v) := by
  refine h.registers rfl (fun n hn => ?_) (by rw [State.setReg_f]) id
  cases q <;> cases n <;> first | rfl | exact absurd hq hn

theorem Changes.setF (h : Changes E s t) {f : Byte} (hf : f &&& ~~~ E.flags = t.regs.f &&& ~~~ E.flags) : Changes E s (t.setF f) :=
  h.registers rfl (fun n _ => by cases n <;> rfl) hf id

theorem Changes.setWZ (h : Changes E s t) {w : Word} (hw : .WZ ∈ E.regs := by simp [formEffect, formWrites, blockRegs]) :
    Changes E s (t.setWZ w) :=
  h.registers rfl (fun n hn => by cases n <;> first | rfl | exact absurd hw hn) rfl id

theorem Changes.setSP (h : Changes E s t) {w : Word} (hw : .SP ∈ E.regs := by simp [formEffect, formWrites, blockRegs]) :
    Changes E s { t with sp := w } :=
  h.registers rfl (fun n hn => by cases n <;> first | rfl | exact absurd hw hn) rfl id

theorem Changes.setAfAlt (h : Changes E s t) {w : Word} (hw : .AFalt ∈ E.regs := by simp [formEffect, formWrites]) :
    Changes E s { t with afAlt := w } :=
  h.registers rfl (fun n hn => by cases n <;> first | rfl | exact absurd hw hn) rfl id

theorem Changes.setBanksAlt (h : Changes E s t) {bc de hl : Word}
    (hw : [.BCalt, .DEalt, .HLalt] ⊆ E.regs := by simp [formEffect, formWrites]) :
    Changes E s { t with bcAlt := bc, deAlt := de, hlAlt := hl } :=
  h.registers rfl (fun n hn => by cases n <;> first | rfl | exact absurd (hw (by decide)) hn) rfl id

theorem Changes.setIff1 (h : Changes E s t) {v : Bool} (hv : .IFF1 ∈ E.regs := by simp [formEffect, formWrites]) :
    Changes E s { t with iff1 := v } :=
  h.registers rfl (fun n hn => by cases n <;> first | rfl | exact absurd hv hn) rfl id

theorem Changes.setIff (h : Changes E s t) {v w : Bool} (hvw : [.IFF1, .IFF2] ⊆ E.regs := by simp [formEffect, formWrites]) :
    Changes E s { t with iff1 := v, iff2 := w } :=
  h.registers rfl (fun n hn => by cases n <;> first | rfl | exact absurd (hvw (by decide)) hn) rfl id

/-- IM takes one of 0, 1 and 2 (R428 to R430). -/
theorem Changes.setIm (h : Changes E s t) {m : ImMode} (hm : .IM ∈ E.regs := by simp [formEffect, formWrites]) :
    Changes E s { t with im := m.value } :=
  have hvalue : m.value ≠ 3 := by cases m <;> decide
  h.registers rfl (fun n hn => by cases n <;> first | rfl | exact absurd hm hn) rfl fun _ => hvalue

theorem Changes.setHalf (h : Changes E s t) {x : Index} {k : Half} {v : Byte}
    (hk : halfReg x k ∈ E.regs := by simp [formEffect, formWrites, blockRegs]) : Changes E s (t.setHalf x k v) := by
  refine h.registers (by cases x <;> cases k <;> rfl) (fun n hn => ?_) (by rw [State.setHalf_regs])
    (by rw [State.setHalf_im]; exact id)
  cases x <;> cases k <;> cases n <;> first
    | rfl | exact absurd hk hn | simp [State.value, State.setHalf, State.setIndex, State.index]

theorem Changes.setIndex (h : Changes E s t) {x : Index} {w : Word}
    (hx : indexRegs x ⊆ E.regs := by simp [formEffect, formWrites, blockRegs]) : Changes E s (t.setIndex x w) := by
  refine h.registers (by cases x <;> rfl) (fun n hn => ?_) (by rw [State.setIndex_regs]) (by rw [State.setIndex_im]; exact id)
  have hne : n ∉ indexRegs x := fun hmem => hn (hx hmem)
  cases x <;> cases n <;> first | rfl | exact absurd (by decide) hne

/-- I or R by its name. -/
def specialReg : SpecialReg → RegName
  | .I => .I
  | .R => .R

theorem Changes.setSpecial (h : Changes E s t) {q : SpecialReg} {v : Byte} (hq : specialReg q ∈ E.regs) :
    Changes E s (t.setSpecial q v) := by
  refine h.registers (by cases q <;> rfl) (fun n hn => ?_) (by rw [State.setSpecial_regs]) (by rw [State.setSpecial_im]; exact id)
  cases q <;> cases n <;> first | rfl | exact absurd hq hn

theorem Changes.copyTo (h : Changes E s t) {copy : Option Reg8} {v : Byte}
    (hcopy : copyRegs copy ⊆ E.regs := by simp [formEffect, formWrites, blockRegs]) : Changes E s (t.copyTo copy v) := by
  cases copy with
  | none => exact h
  | some r => exact h.setReg (hcopy (List.mem_singleton_self _))

/-- A write of two registers of the file is two writes. -/
theorem Changes.setHL (h : Changes E s t) {w : Word} (hw : [.H, .L] ⊆ E.regs := by simp [formEffect, formWrites, blockRegs]) :
    Changes E s (t.setHL w) :=
  (h.setReg (q := .H) (v := hi w) (hw (by decide))).setReg (q := .L) (v := lo w) (hw (by decide))

theorem Changes.setDE (h : Changes E s t) {w : Word} (hw : [.D, .E] ⊆ E.regs := by simp [formEffect, formWrites, blockRegs]) :
    Changes E s (t.setDE w) :=
  (h.setReg (q := .D) (v := hi w) (hw (by decide))).setReg (q := .E) (v := lo w) (hw (by decide))

theorem Changes.setBC (h : Changes E s t) {w : Word} (hw : [.B, .C] ⊆ E.regs := by simp [formEffect, formWrites, blockRegs]) :
    Changes E s (t.setBC w) :=
  (h.setReg (q := .B) (v := hi w) (hw (by decide))).setReg (q := .C) (v := lo w) (hw (by decide))

theorem Changes.setPair (h : Changes E s t) {p : Pair} {w : Word}
    (hp : pairRegs p ⊆ E.regs := by simp [formEffect, formWrites, blockRegs]) : Changes E s (t.setPair p w) := by
  cases p with
  | BC => exact h.setBC hp
  | DE => exact h.setDE hp
  | HL => exact h.setHL hp
  | SP => exact h.setSP (hp (List.mem_singleton_self _))

theorem Changes.setAF8 (h : Changes E s t) {a f : Byte} (hf : f &&& ~~~ E.flags = t.regs.f &&& ~~~ E.flags)
    (ha : .A ∈ E.regs := by simp [formEffect, formWrites, blockRegs]) : Changes E s (t.setAF8 a f) :=
  (h.setReg (q := .A) (v := a) ha).setF hf

theorem Changes.setStackPair (h : Changes E s t) {q : StackPair} {w : Word}
    (hq : stackRegs q ⊆ E.regs := by simp [formEffect, formWrites, blockRegs])
    (hf : q = .AF → lo w &&& ~~~ E.flags = t.regs.f &&& ~~~ E.flags) : Changes E s (t.setStackPair q w) := by
  cases q with
  | BC => exact h.setBC hq
  | DE => exact h.setDE hq
  | HL => exact h.setHL hq
  | AF => exact h.setAF8 (a := hi w) (hf rfl) (hq (List.mem_singleton_self _))

/-- An ALU operation may write A and every flag, but CP keeps A. -/
theorem Changes.alu (h : Changes E s t) {op : AluOp} {v : Byte} (ha : op ≠ .cp → .A ∈ E.regs) (hf : E.flags = 0xFF) :
    Changes E s (t.alu op v) := by
  have hflags : ∀ f, f &&& ~~~ E.flags = t.regs.f &&& ~~~ E.flags := by simp [hf]
  cases op with
  | cp => exact h.setF (hflags _)
  | add | adc | sub | sbc | and | xor | or => exact h.setAF8 (hflags _) (ha (by decide))

/-- PC, the cycle count and the result are no registers of an effect. -/
theorem Changes.finishAt (h : Changes E s t) {target : Word} {cost : Nat} : Changes E s (t.finishAt target cost) :=
  h.registers rfl (fun n _ => by cases n <;> rfl) rfl id

theorem Changes.haltCondition (h : Changes E s t) {cost : Nat} : Changes E s (t.haltCondition cost) :=
  h.registers rfl (fun n _ => by cases n <;> rfl) rfl id

/-! ## Memory and ports -/

theorem Changes.poke (h : Changes E s t) {a : Word} {v : Byte} (ha : a ∈ E.stores) : Changes E s (t.poke a v) where
  cpu := ⟨fun n hn => (by cases n <;> rfl : (t.poke a v).value n = t.value n).trans (h.cpu.regs n hn), h.cpu.flags, h.cpu.im⟩
  bus := ⟨h.bus.pages, h.bus.config, fun hm => State.wf_poke (h.bus.wf hm) a v,
    fun b hb => (State.peek_poke_other t v fun e : b = a => hb (by rwa [e])).trans (h.bus.mem b hb), h.bus.ports⟩

/-- A port access keeps the number of devices. -/
theorem State.length_devices_ioRead (s : State) (port : Byte) : (s.ioRead port).2.devices.length = s.devices.length := by
  have hdraw : ∀ t : State, (t.draw port).2.devices = t.devices := fun t => by rw [State.draw_frame]
  have harrival : ∀ c, (s.consoleArrival port c).2.devices = s.devices := fun c => by
    obtain ⟨l, n, h⟩ := s.consoleArrival_frame port c
    rw [h]
  simp only [State.ioRead, State.portRead, State.deviceRead]
  split
  · split
    · rfl
    · split
      · simp [State.consoleDataRead, harrival]
      · split <;> simp [State.consoleStatusRead, hdraw, harrival]
    · rw [hdraw]
    · rw [hdraw]
  · rw [hdraw]

theorem State.length_devices_ioWrite (s : State) (port v : Byte) : (s.ioWrite port v).devices.length = s.devices.length := by
  simp only [State.ioWrite, State.portWrite, State.deviceWrite]
  split
  · split
    · simp
    · split
      · simp
      · split
        · split <;> simp
        · rfl
    · rfl
    · rfl
  · rfl

/-- A change of the devices, the environment and the trace alone. -/
theorem Changes.devices (h : Changes E s t) (hp : E.ports = true) {dev : List Device} {l : List Byte} {n : Nat} {tr : List IoEvent}
    (hlen : dev.length = t.devices.length) :
    Changes E s { t with devices := dev, ioIn := l, ioDraws := n, ioTrace := tr } where
  cpu := ⟨fun n hn => (by cases n <;> rfl : State.value { t with devices := dev } n = t.value n).trans (h.cpu.regs n hn),
    h.cpu.flags, h.cpu.im⟩
  bus :=
    have ⟨hslots, hmode, hbreak, hflag, hreasons, hdevices⟩ := h.bus.config
    ⟨h.bus.pages, ⟨hslots, hmode, hbreak, hflag, hreasons, hlen.trans hdevices⟩, h.bus.wf, h.bus.mem,
      fun hnone => absurd (hp.symm.trans hnone) (by decide)⟩

theorem Changes.ioRead (h : Changes E s t) {port : Byte} (hp : E.ports = true := by rfl) : Changes E s (t.ioRead port).2 := by
  have hchanges := h.devices (dev := (t.ioRead port).2.devices) (l := (t.ioRead port).2.ioIn) (n := (t.ioRead port).2.ioDraws)
    (tr := t.ioTrace ++ [.input port (t.ioRead port).1]) hp (t.length_devices_ioRead port)
  rwa [← State.ioRead_frame] at hchanges

theorem Changes.ioWrite (h : Changes E s t) {port v : Byte} (hp : E.ports = true := by rfl) : Changes E s (t.ioWrite port v) := by
  have hchanges := h.devices (dev := (t.ioWrite port v).devices) (l := t.ioIn) (n := t.ioDraws)
    (tr := t.ioTrace ++ [.output port v]) hp (t.length_devices_ioWrite port v)
  exact State.ioWrite_frame t port v ▸ hchanges

/-! ## Accesses in their order (R83) -/

/-- The step makes these accesses in their order: it completes, changing only what the effect names and reporting its condition, when
they are all permitted, and ends with `BadAccess` at the first that is not. Their stores are among the effect's. -/
def Behaves (E : Effect) (s : State) (l : List Access) (r : Result) : Prop :=
  (∀ x ∈ l, x.kind = .write → x.addr ∈ E.stores) →
    match l.find? (fun x => !s.permits x) with
    | none => ∃ t, r = .next t ∧ t.result = E.result ∧ Changes E s t
    | some x => r = .fault (.badAccess s.pc x.addr x.kind)

theorem behaves_next (h : Changes E s t) (hresult : t.result = E.result) : Behaves E s [] (.next t) :=
  fun _ => ⟨t, rfl, hresult, h⟩

theorem behaves_finishAt {target : Word} {cost : Nat} (h : Changes E s t) (hresult : E.result = .ok := by rfl) :
    Behaves E s [] (.next (t.finishAt target cost)) :=
  behaves_next h.finishAt hresult.symm

theorem behaves_finish {len cost : Nat} (h : Changes E s t) (hresult : E.result = .ok := by rfl) :
    Behaves E s [] (.next (t.finish len cost)) :=
  behaves_finishAt h hresult

/-- A permitted access goes on, and one that is not ends the step. -/
theorem behaves_cons {x : Access} {l : List Access} {r : Result}
    (hok : s.permits x = true → (x.kind = .write → x.addr ∈ E.stores) → Behaves E s l r)
    (hfault : s.permits x = false → r = .fault (.badAccess s.pc x.addr x.kind)) : Behaves E s (x :: l) r := by
  intro hstores
  rw [List.forall_mem_cons] at hstores
  cases hx : s.permits x with
  | true =>
    rw [List.find?_cons_of_neg (by simp [hx])]
    exact hok hx hstores.1 hstores.2
  | false =>
    rw [List.find?_cons_of_pos (by simp [hx])]
    exact hfault hx

theorem behaves_memRead {a : Word} {l : List Access} {f : Byte → Except Fault State} (h : Changes E s t)
    (hf : Behaves E s l (outcome (f (t.peek a)))) (hpc : t.pc = s.pc := by rfl) :
    Behaves E s (rd a :: l) (outcome (t.memRead a >>= f)) := by
  have hcan : t.canRead a = s.permits (rd a) := State.canRead_congr h.bus.pages a
  refine behaves_cons (fun hx _ => ?_) (fun hx => ?_)
  · rwa [State.memRead_ok (hcan.trans hx)]
  · rw [State.memRead_forbidden (hcan.trans hx), hpc]
    rfl

theorem behaves_memWrite {a : Word} {v : Byte} {l : List Access} {f : State → Except Fault State} (h : Changes E s t)
    (hf : Changes E s (t.poke a v) → Behaves E s l (outcome (f (t.poke a v)))) (hpc : t.pc = s.pc := by rfl) :
    Behaves E s (wr a :: l) (outcome (t.memWrite a v >>= f)) := by
  have hcan : t.canWrite a = s.permits (wr a) := State.canWrite_congr h.bus.pages a
  refine behaves_cons (fun hx hstored => ?_) (fun hx => ?_)
  · rw [State.memWrite_ok (hcan.trans hx)]
    exact hf (h.poke (hstored rfl))
  · rw [State.memWrite_forbidden (hcan.trans hx), hpc]
    rfl

theorem behaves_ite {c : Bool} {l1 l2 : List Access} {r1 r2 : Result} (h1 : Behaves E s l1 r1) (h2 : Behaves E s l2 r2) :
    Behaves E s (if c then l1 else l2) (if c then r1 else r2) := by
  cases c with
  | true => exact h1
  | false => exact h2

/-! ## Words and the stack -/

theorem behaves_memRead16 {a : Word} {l : List Access} {f : Word → Except Fault State} (h : Changes E s t)
    (hf : Behaves E s l (outcome (f (join (t.peek (a + 1)) (t.peek a))))) (hpc : t.pc = s.pc := by rfl) :
    Behaves E s (rd a :: rd (a + 1) :: l) (outcome (t.memRead16 a >>= f)) := by
  simp only [State.memRead16, bind_assoc, pure_bind]
  exact behaves_memRead h (behaves_memRead h hf hpc) hpc

theorem behaves_memWrite16 {a v : Word} {l : List Access} {f : State → Except Fault State} (h : Changes E s t)
    (hf : ∀ u, Changes E s u → Behaves E s l (outcome (f u))) (hpc : t.pc = s.pc := by rfl) :
    Behaves E s (wr a :: wr (a + 1) :: l) (outcome (t.memWrite16 a v >>= f)) := by
  simp only [State.memWrite16, bind_assoc]
  exact behaves_memWrite h (fun hlow => behaves_memWrite hlow (hf _) hpc) hpc

theorem behaves_push16 {v : Word} {l : List Access} {f : State → Except Fault State} (h : Changes E s t)
    (hf : ∀ u, Changes E s u → Behaves E s l (outcome (f u))) (hpc : t.pc = s.pc := by rfl)
    (hsp : .SP ∈ E.regs := by simp [formEffect, formWrites, blockRegs]) :
    Behaves E s (wr (t.sp - 1) :: wr (t.sp - 2) :: l) (outcome (t.push16 v >>= f)) := by
  simp only [State.push16, bind_assoc, pure_bind]
  exact behaves_memWrite h (fun hhigh => behaves_memWrite hhigh (fun hlow => hf _ (hlow.setSP hsp)) hpc) hpc

theorem behaves_pop16 {l : List Access} {f : Word × State → Except Fault State} (h : Changes E s t)
    (hf : Behaves E s l (outcome (f (t.stackTop, { t with sp := t.sp + 2 })))) (hpc : t.pc = s.pc := by rfl) :
    Behaves E s (rd t.sp :: rd (t.sp + 1) :: l) (outcome (t.pop16 >>= f)) := by
  simp only [State.pop16, bind_assoc, pure_bind]
  exact behaves_memRead16 h hf hpc

theorem behaves_swapTop {v : Word} {f : Word × State → Except Fault State}
    (hf : ∀ old u, Changes E s u → Behaves E s [] (outcome (f (old, u)))) :
    Behaves E s (exSpAccesses s) (outcome (s.swapTop v >>= f)) := by
  simp only [State.swapTop, bind_assoc, pure_bind]
  exact behaves_memRead16 (.refl E s) (behaves_memWrite (.refl E s) fun hhigh => behaves_memWrite hhigh (hf _ _))

theorem behaves_callTo {nn : Word} (hregs : [.SP, .WZ] ⊆ E.regs) (hresult : E.result = .ok) :
    Behaves E s (pushAccesses s) (outcome (s.callTo nn)) :=
  behaves_push16 (t := s.setWZ nn) ((Changes.refl E s).setWZ (hregs (by decide))) (fun _ hpush => behaves_finishAt hpush hresult)
    (hsp := hregs (by decide))

theorem behaves_retWith {cost : Nat} (hregs : [.SP, .WZ] ⊆ E.regs) (hresult : E.result = .ok) :
    Behaves E s (popAccesses s) (outcome (s.retWith cost)) :=
  behaves_pop16 (.refl E s) (behaves_finishAt (((Changes.refl E s).setSP (hregs (by decide))).setWZ (hregs (by decide))) hresult)

/-! ## Flags: which bits of F a primitive may change -/

/-- Where every flag may change, there is nothing to keep. -/
theorem keeps_of_all {mask : Byte} (h : mask = 0xFF) (f old : Byte) : f &&& ~~~ mask = old &&& ~~~ mask := by
  simp [h]

theorem inc8_keeps (v old : Byte) : (inc8 v old).2 &&& ~~~ 0xFE = old &&& ~~~ 0xFE := by
  ext i hi; interval_cases i <;> simp [inc8]

theorem dec8_keeps (v old : Byte) : (dec8 v old).2 &&& ~~~ 0xFE = old &&& ~~~ 0xFE := by
  ext i hi; interval_cases i <;> simp [dec8]

theorem ldSpecialFlags_keeps (v : Byte) (iff2 : Bool) (old : Byte) : ldSpecialFlags v iff2 old &&& ~~~ 0xFE = old &&& ~~~ 0xFE := by
  ext i hi; interval_cases i <;> simp [ldSpecialFlags]

theorem daa8_keeps (a old : Byte) : (daa8 a old).2 &&& ~~~ 0xFD = old &&& ~~~ 0xFD := by
  ext i hi; interval_cases i <;> simp [daa8]

theorem cplFlags_keeps (a old : Byte) : cplFlags a old &&& ~~~ 0x3A = old &&& ~~~ 0x3A := by
  ext i hi; interval_cases i <;> simp [cplFlags]

theorem ccfFlags_keeps (a old : Byte) : ccfFlags a old &&& ~~~ 0x3B = old &&& ~~~ 0x3B := by
  ext i hi; interval_cases i <;> cases hc : flagC old <;> simp [ccfFlags, hc]

theorem scfFlags_keeps (a old : Byte) : scfFlags a old &&& ~~~ 0x3B = old &&& ~~~ 0x3B := by
  ext i hi; interval_cases i <;> simp [scfFlags]

theorem add16_keeps (x y : Word) (old : Byte) : (add16 x y old).2 &&& ~~~ 0x3B = old &&& ~~~ 0x3B := by
  ext i hi; interval_cases i <;> simp [add16]

theorem accRotFlags_keeps (r f old : Byte) : accRotFlags r f old &&& ~~~ 0x3B = old &&& ~~~ 0x3B := by
  ext i hi; interval_cases i <;> simp [accRotFlags]

theorem bit8_keeps (b : BitNo) (v xy old : Byte) : bit8 b v xy old &&& ~~~ 0xFE = old &&& ~~~ 0xFE := by
  ext i hi; interval_cases i <;> simp [bit8]

theorem digitRotFlags_keeps (a old : Byte) : digitRotFlags a old &&& ~~~ 0xFE = old &&& ~~~ 0xFE := by
  ext i hi; interval_cases i <;> simp [digitRotFlags, sz53p]

theorem blockmoveFlags_keeps (a v : Byte) (bc : Word) (old : Byte) : blockmoveFlags a v bc old &&& ~~~ 0x3E = old &&& ~~~ 0x3E := by
  ext i hi; interval_cases i <;> simp [blockmoveFlags]

theorem blockcmpFlags_keeps (a v : Byte) (bc : Word) (old : Byte) : blockcmpFlags a v bc old &&& ~~~ 0xFE = old &&& ~~~ 0xFE := by
  ext i hi; interval_cases i <;> simp [blockcmpFlags]

theorem inFlags_keeps (v old : Byte) : ((old &&& 0x01) ||| sz53p v) &&& ~~~ 0xFE = old &&& ~~~ 0xFE := by
  ext i hi; interval_cases i <;> simp [sz53p]

/-! ## Block instructions -/

theorem behaves_blockEnd {again : Bool} (h : Changes E s t) (hresult : E.result = .ok := by rfl) :
    Behaves E s [] (.next (t.blockEnd again)) := by
  cases again <;> exact behaves_finishAt h hresult

theorem behaves_blockEndWZ {again : Bool} (h : Changes E s t) (hwz : .WZ ∈ E.regs := by simp [formEffect, formWrites, blockRegs])
    (hresult : E.result = .ok := by rfl) : Behaves E s [] (.next (t.blockEndWZ again)) := by
  cases again with
  | true => exact behaves_blockEnd (again := true) (h.setWZ (w := t.pc + 1) hwz) hresult
  | false => exact behaves_blockEnd (again := false) h hresult

/-- The block inputs and outputs may change every flag. -/
theorem behaves_block (k : BlockOp) (s : State) :
    Behaves (formEffect (.block k) s) s (blockAccesses k s) (runForm (.block k) s) := by
  have hs := Changes.refl (formEffect (.block k) s) s
  cases k with
  | ldi | ldd | ldir | lddr =>
    exact behaves_memRead hs <| behaves_memWrite hs fun hstored => behaves_blockEndWZ <|
      hstored.setDE.setHL.setBC.setF (blockmoveFlags_keeps ..)
  | cpi | cpd | cpir | cpdr =>
    exact behaves_memRead hs <| behaves_blockEndWZ <| (hs.setHL.setBC.setF (blockcmpFlags_keeps ..)).setWZ
  | ini | ind | inir | indr =>
    exact behaves_memWrite (hs.setWZ.ioRead.setReg (q := .B) (.head _)) (fun hstored => behaves_blockEnd <|
      hstored.setHL.setF (keeps_of_all rfl ..)) (State.ioRead_clock _ _).1
  | outi | outd | otir | otdr =>
    exact behaves_memRead hs <| behaves_blockEnd <|
      (hs.setReg (q := .B) (.head _)).setWZ.ioWrite.setHL.setF (keeps_of_all rfl ..)

/-! ## Every form -/

/-- Every form makes the accesses of its table in their order and, when it completes, changes only what its tables name and reports its
condition. -/
theorem runForm_behaves (g : Form) (s : State) (hdefined : ∀ p op, g ≠ .invalid p op) :
    Behaves (formEffect g s) s (formAccesses g s) (runForm g s) := by
  have hs := Changes.refl (formEffect g s) s
  cases g with
  -- registers and flags
  | ldRegReg | ldRegImm => exact behaves_finish hs.setReg
  | ldAccSpecial => exact behaves_finish (hs.setAF8 (ldSpecialFlags_keeps ..))
  | ldSpecialAcc q => cases q <;> exact behaves_finish (hs.setSpecial (.head _))
  | ldRegHalf | chgReg => exact behaves_finish hs.setReg
  | ldHalfReg | ldHalfHalf | ldHalfImm => exact behaves_finish hs.setHalf
  | ldSpHl | ldSpIndex => exact behaves_finish hs.setSP
  | ldPairImm | incPair | decPair => exact behaves_finish hs.setPair
  | ldIndexImm | incIndex | decIndex => exact behaves_finish hs.setIndex
  | exDeHl => exact behaves_finish hs.setDE.setHL
  | aluReg op | aluImm op | aluHalf op => exact behaves_finish (hs.alu (by cases op <;> simp [formEffect, formWrites]) rfl)
  | incReg => exact behaves_finish (hs.setReg.setF (by rw [State.setReg_f]; exact inc8_keeps ..))
  | decReg => exact behaves_finish (hs.setReg.setF (by rw [State.setReg_f]; exact dec8_keeps ..))
  | incHalf => exact behaves_finish (hs.setHalf.setF (by rw [State.setHalf_regs]; exact inc8_keeps ..))
  | decHalf => exact behaves_finish (hs.setHalf.setF (by rw [State.setHalf_regs]; exact dec8_keeps ..))
  | daa => exact behaves_finish (hs.setAF8 (daa8_keeps ..))
  | cpl => exact behaves_finish (hs.setAF8 (cplFlags_keeps ..))
  | neg => exact behaves_finish (hs.setAF8 (keeps_of_all rfl ..))
  | ccf => exact behaves_finish (hs.setF (ccfFlags_keeps ..))
  | scf => exact behaves_finish (hs.setF (scfFlags_keeps ..))
  | addHl => exact behaves_finish (hs.setWZ.setHL.setF (add16_keeps ..))
  | adcHl | sbcHl => exact behaves_finish (hs.setWZ.setHL.setF (keeps_of_all rfl ..))
  | addIndex => exact behaves_finish (hs.setWZ.setIndex.setF (by rw [State.setIndex_regs]; exact add16_keeps ..))
  | accRot => exact behaves_finish (hs.setAF8 (accRotFlags_keeps ..))
  | rotReg => exact behaves_finish (hs.setReg.setF (keeps_of_all rfl ..))
  | bitReg => exact behaves_finish (hs.setF (bit8_keeps ..))
  | nop => exact behaves_finish hs
  | halt => exact behaves_next hs.haltCondition rfl
  | invalid p op => exact absurd rfl (hdefined p op)
  | exAf => exact behaves_finish (hs.setAfAlt.setAF8 (keeps_of_all rfl ..))
  | exx => exact behaves_finish hs.setBanksAlt.setBC.setDE.setHL
  | di | ei => exact behaves_finish hs.setIff
  | im => exact behaves_finish hs.setIm
  -- ports
  | inAcc => exact behaves_finish (hs.setWZ.ioRead.setReg (q := .A) (.head _))
  | inReg =>
    refine behaves_finish (hs.setWZ.ioRead.setReg.setF ?_)
    rw [State.setReg_f, State.ioRead_frame]
    exact inFlags_keeps ..
  | outAcc | outReg => exact behaves_finish hs.ioWrite.setWZ
  -- a read, a write, or a read and a write
  | ldRegMem => exact behaves_memRead hs (behaves_finish hs.setReg)
  | ldMemReg | ldMemImm => exact behaves_memWrite hs behaves_finish
  | ldRegIdx => exact behaves_memRead hs.setWZ (behaves_finish hs.setWZ.setReg)
  | ldIdxReg | ldIdxImm => exact behaves_memWrite hs.setWZ behaves_finish
  | ldAccInd | ldAccAbs => exact behaves_memRead hs (behaves_finish (hs.setReg (q := .A) (.head _)).setWZ)
  | ldIndAcc | ldAbsAcc => exact behaves_memWrite hs fun hstored => behaves_finish hstored.setWZ
  | aluMem op => exact behaves_memRead hs (behaves_finish (hs.alu (by cases op <;> simp [formEffect, formWrites]) rfl))
  | aluIdx op x d =>
    have hwz : .WZ ∈ (formEffect (.aluIdx op x d) s).regs := by cases op <;> simp [formEffect, formWrites]
    exact behaves_memRead (hs.setWZ hwz)
      (behaves_finish ((hs.setWZ hwz).alu (by cases op <;> simp [formEffect, formWrites]) rfl))
  | incMem => exact behaves_memRead hs (behaves_memWrite (hs.setF (inc8_keeps ..)) behaves_finish)
  | decMem => exact behaves_memRead hs (behaves_memWrite (hs.setF (dec8_keeps ..)) behaves_finish)
  | incIdx => exact behaves_memRead hs.setWZ (behaves_memWrite (hs.setWZ.setF (inc8_keeps ..)) behaves_finish)
  | decIdx => exact behaves_memRead hs.setWZ (behaves_memWrite (hs.setWZ.setF (dec8_keeps ..)) behaves_finish)
  | rotMem => exact behaves_memRead hs (behaves_memWrite (hs.setF (keeps_of_all rfl ..)) behaves_finish)
  | rotIdx =>
    exact behaves_memRead hs.setWZ (behaves_memWrite (hs.setWZ.setF (keeps_of_all rfl ..)) fun hstored =>
      behaves_finish hstored.copyTo)
  | bitMem => exact behaves_memRead hs (behaves_finish (hs.setF (bit8_keeps ..)))
  | bitIdx => exact behaves_memRead hs.setWZ (behaves_finish (hs.setWZ.setF (bit8_keeps ..)))
  | chgMem => exact behaves_memRead hs (behaves_memWrite hs behaves_finish)
  | chgIdx => exact behaves_memRead hs.setWZ (behaves_memWrite hs.setWZ fun hstored => behaves_finish hstored.copyTo)
  | rld | rrd =>
    exact behaves_memRead hs (behaves_memWrite hs fun hstored =>
      behaves_finish (hstored.setAF8 (digitRotFlags_keeps ..)).setWZ)
  -- words and the stack
  | ldHlAbs => exact behaves_memRead16 hs (behaves_finish hs.setHL.setWZ)
  | ldPairAbs => exact behaves_memRead16 hs (behaves_finish hs.setPair.setWZ)
  | ldIndexAbs => exact behaves_memRead16 hs (behaves_finish hs.setIndex.setWZ)
  | ldAbsHl | ldAbsPair | ldAbsIndex => exact behaves_memWrite16 hs fun _ hstored => behaves_finish hstored.setWZ
  | pushPair | pushIndex => exact behaves_push16 hs fun _ hpushed => behaves_finish hpushed
  | popPair q => exact behaves_pop16 hs (behaves_finish (hs.setSP.setStackPair (hf := by rintro rfl; exact keeps_of_all rfl ..)))
  | popIndex => exact behaves_pop16 hs (behaves_finish hs.setSP.setIndex)
  | exSpHl => exact behaves_swapTop fun _ _ hswapped => behaves_finish hswapped.setHL.setWZ
  | exSpIndex => exact behaves_swapTop fun _ _ hswapped => behaves_finish hswapped.setIndex.setWZ
  -- control transfer
  | jp | jr => exact behaves_finishAt hs.setWZ
  | jpHl | jpIndex => exact behaves_finishAt hs
  | jpCond =>
    rw [runForm, jpCond]
    split
    · exact behaves_finishAt hs.setWZ
    · exact behaves_finish hs.setWZ
  | jrCond =>
    rw [runForm, jrCond]
    split
    · exact behaves_finishAt hs.setWZ
    · exact behaves_finish hs
  | djnz =>
    rw [runForm, execDjnz_e]
    split
    · exact behaves_finish (hs.setReg (q := .B) (.head _))
    · exact behaves_finishAt (hs.setReg (q := .B) (.head _)).setWZ
  | call => exact behaves_callTo (List.Subset.refl _) rfl
  | callCond => exact behaves_ite (behaves_callTo (List.Subset.refl _) rfl) (behaves_finish hs.setWZ)
  | ret | retn => exact behaves_retWith (List.Subset.refl _) rfl
  | retCond => exact behaves_ite (behaves_retWith (List.Subset.refl _) rfl) (behaves_finish hs)
  | reti =>
    rw [runForm, execReti, State.retWith, bind_assoc]
    exact behaves_pop16 hs (behaves_next hs.setSP.setWZ.finishAt.setIff1 rfl)
  | rst => exact behaves_push16 hs fun _ hpushed => behaves_finishAt hpushed.setWZ
  | block k => exact behaves_block k s

/-! ## What the statements about every form say -/

theorem execForm_behaves (g : Form) (s : State) (hdefined : ∀ p op, g ≠ .invalid p op) :
    match (formAccesses g s).find? (fun x => !s.permits x) with
    | none => ∃ t, exec g.toInstr s = .next t ∧ t.result = formResult g s ∧ Changes (formEffect g s) s t
    | some x => exec g.toInstr s = .fault (.badAccess s.pc x.addr x.kind) := by
  rw [exec_toInstr]
  exact runForm_behaves g s hdefined fun x hx hwrite => List.mem_map_of_mem (List.mem_filter.mpr ⟨hx, by simpa using hwrite⟩)

/-- An undefined opcode stops with its bytes (R126, R451). -/
theorem exec_invalid (p : OpPrefix) (op : Byte) (s : State) :
    exec (.invalid p op) s = .fault (.invalidInstruction s.pc p.byte op) := rfl

/-- A form that completes has changed only what its tables name and reports its condition. -/
theorem exec_changes {g : Form} {s t : State} (h : exec g.toInstr s = .next t) :
    t.result = formResult g s ∧ Changes (formEffect g s) s t := by
  have hdefined : ∀ p op, g ≠ .invalid p op := by
    rintro p op rfl
    cases h
  have hbehaves := execForm_behaves g s hdefined
  split at hbehaves
  · obtain ⟨u, hu, hresult, hchanges⟩ := hbehaves
    cases h.symm.trans hu
    exact ⟨hresult, hchanges⟩
  · cases h.symm.trans hbehaves

/-- A step that completes is that of a form. -/
theorem exists_form_of_step {s t : State} (h : step s = .next t) : ∃ g : Form, exec g.toInstr s = .next t := by
  cases hg : s.fetchForm with
  | ok g => exact ⟨g, step_of_fetchForm hg ▸ h⟩
  | error f => cases (step_of_fetchForm_error hg).symm.trans h

/-- Settles O9: no step changes the configuration, and `Changes` keeps memory's form and IM. -/
theorem stepKeepsInvariant : Obligations.StepKeepsInvariant := by
  intro s t ⟨hmem, him, hbreakpoints, hflag, hslots⟩ h
  obtain ⟨g, hg⟩ := exists_form_of_step h
  obtain ⟨-, hcpu, hbus⟩ := exec_changes hg
  obtain ⟨hslotsEq, -, hbreakpointsEq, hflagEq, -, hdevices⟩ := hbus.config
  refine ⟨hbus.wf hmem, hcpu.im him, ?_, ?_, ?_⟩
  · rwa [hbreakpointsEq]
  · rwa [hflagEq, hbreakpointsEq]
  · rwa [hdevices, hslotsEq]

/-- Settles O11: the configuration is among what no effect names. -/
theorem stepKeepsConfiguration : Obligations.StepKeepsConfiguration := by
  intro s t h
  obtain ⟨g, hg⟩ := exists_form_of_step h
  obtain ⟨-, -, hbus⟩ := exec_changes hg
  exact ⟨hbus.pages, hbus.config⟩

/-- Settles O12, by `exec_changes`. -/
theorem registerFrame : Obligations.RegisterFrame :=
  fun _ _ _ n h hn => (exec_changes h).2.cpu.regs n hn

/-- Settles O13, by `exec_changes`. -/
theorem flagFrame : Obligations.FlagFrame :=
  fun _ _ _ h => (exec_changes h).2.cpu.flags

/-- Settles O14, by `exec_changes`. -/
theorem memoryFrame : Obligations.MemoryFrame :=
  fun _ _ _ a h ha => (exec_changes h).2.bus.mem a ha

/-- Settles O15, by `exec_changes`. -/
theorem portFrame : Obligations.PortFrame :=
  fun _ _ _ hports h => (exec_changes h).2.bus.ports hports

/-- Settles O17: the accesses are those of `execForm_behaves`. -/
theorem completesUnlessAnAccessIsForbidden : Obligations.CompletesUnlessAnAccessIsForbidden := by
  intro g s hdefined
  have hbehaves := execForm_behaves g s hdefined
  cases hfind : (formAccesses g s).find? (fun x => !s.permits x) with
  | none =>
    rw [hfind] at hbehaves
    obtain ⟨t, ht, -⟩ := hbehaves
    exact ⟨t, ht⟩
  | some x =>
    rw [hfind] at hbehaves
    exact hbehaves

/-- A form whose bytes are those of another is that form, if both are well-formed: the decoder answers one form. -/
theorem form_eq_of_toInstr_eq {g g' : Form} (h : g.toInstr = g'.toInstr) (hw : formWellFormed g' = true) : g = g' := by
  have hbytes : formBytes g = formBytes g' := by rw [← encode_toInstr, h, encode_toInstr]
  have hdecodes : ∀ {k : Form}, formWellFormed k = true → formBytes k = formBytes g' → decodeForm (formBytes g') = .ok k :=
    fun hk heq => decodeForm_eq_ok_iff.mpr ⟨hk, heq ▸ List.prefix_refl _⟩
  have hwg : formWellFormed g = true := by rw [← wellFormed_toInstr, h, wellFormed_toInstr, hw]
  exact Except.ok.inj ((hdecodes hwg hbytes).symm.trans (hdecodes hw rfl))

theorem formResult_eq_ok {g : Form} (h : g ≠ .halt) (s : State) : formResult g s = .ok := by
  cases g with
  | halt => exact absurd rfl h
  | _ => rfl

/-- Settles O18: an undefined opcode is `exec_invalid`, every other instruction ends as `execForm_behaves` says, and only HALT's form
reports `Halt`. -/
theorem conditionsArePrecise : Obligations.ConditionsArePrecise := by
  intro i s
  obtain ⟨g, rfl⟩ := Laws.HasForm.every i
  by_cases hdefined : ∀ p op, g ≠ .invalid p op
  · have hbehaves := execForm_behaves g s hdefined
    split at hbehaves
    · obtain ⟨t, ht, hresult, -⟩ := hbehaves
      rw [ht]
      refine ⟨fun hhalt => ?_, fun hother => ?_⟩
      · rw [hresult, form_eq_of_toInstr_eq (g' := .halt) hhalt rfl]
        rfl
      · rw [hresult, formResult_eq_ok (fun e => hother (congrArg Form.toInstr e))]
    · next x hx =>
      rw [hbehaves]
      exact ⟨rfl, by simpa using List.find?_some hx⟩
  · push Not at hdefined
    obtain ⟨p, op, rfl⟩ := hdefined
    exact ⟨rfl, p, rfl, rfl⟩

end Sys2Proof.Machine
end

section
/-! The step (R78, R111): what the decoder reads at PC is what a step runs, and a fetch fails at the first byte it may not read. -/

namespace Sys2Proof.Machine

/-- The bytes of a well-formed form at PC are fetched, and the step runs the form's instruction. -/
theorem step_of_holdsCode {s : State} {g : Form} (hw : formWellFormed g = true) (h : s.holdsCode s.pc (formBytes g)) :
    step s = exec g.toInstr s := by
  refine step_of_fetchForm (decodeWith_of_reads hw fun k v hk => ?_)
  obtain ⟨hread, rfl⟩ := h k v hk
  exact State.memRead_ok hread

/-- What decodes from the four bytes at PC is a well-formed form with its bytes there. -/
theorem exists_form_of_decode_instructionBytes {s : State} {i : Instr} {n : Nat} (h : decode (s.instructionBytes s.pc) = .ok (i, n)) :
    ∃ g, decodeForm (s.instructionBytes s.pc) = .ok g ∧ g.toInstr = i ∧ (formBytes g).length = n ∧ formWellFormed g = true ∧
      ∀ k v, (formBytes g)[k]? = some v → s.peek (s.pc + BitVec.ofNat 16 k) = v := by
  obtain ⟨g, hg, hi, hn⟩ := decode_eq_ok_iff.mp h
  obtain ⟨hw, hreads⟩ := decodeWith_eq_ok_iff.mp hg
  refine ⟨g, hg, hi, length_eq_length_formBytes g ▸ hn, hw, fun k v hk => ?_⟩
  have hlt : k < 4 := by
    have hlen := (List.getElem?_eq_some_iff.mp hk).1
    rw [← length_eq_length_formBytes] at hlen
    exact hlen.trans_le (one_le_length_le_four g).2
  exact Except.ok.inj ((listFetch_instructionBytes s s.pc hlt).symm.trans (hreads k v hk))

/-- Settles O6: in both cases the bytes of a well-formed form stand at PC on pages that may be read. -/
theorem stepRunsTheInstruction : Obligations.StepRunsTheInstruction := by
  refine ⟨fun s i n h hread => ?_, fun s i hw hcode => ?_⟩
  · obtain ⟨g, -, rfl, rfl, hw, hbytes⟩ := exists_form_of_decode_instructionBytes h
    exact step_of_holdsCode hw fun k v hk => ⟨hread k (List.getElem?_eq_some_iff.mp hk).1, hbytes k v hk⟩
  · obtain ⟨g, rfl⟩ := Laws.HasForm.every i
    rw [wellFormed_toInstr] at hw
    rw [encode_toInstr] at hcode
    exact step_of_holdsCode hw hcode

/-- Settles O7: the fetch does not answer, since it would have read the forbidden byte, so it fails at the first byte that cannot be
fetched (`decodeWith_eq_error`). -/
theorem fetchFaultsAtTheFirstUnreadableByte : Obligations.FetchFaultsAtTheFirstUnreadableByte := by
  intro s i n k h hk hbefore hforbidden
  have hfault : s.memRead (s.pc + BitVec.ofNat 16 k) = .error (.badAccess s.pc (s.pc + BitVec.ofNat 16 k) .read) :=
    State.memRead_forbidden hforbidden
  obtain ⟨g, hg, -, rfl, -, -⟩ := exists_form_of_decode_instructionBytes h
  cases hfetch : s.fetchForm with
  | ok g' =>
    cases (decodeForm_of_fetchForm hfetch).symm.trans hg
    obtain ⟨-, hreads⟩ := decodeWith_eq_ok_iff.mp hfetch
    cases hfault.symm.trans (hreads k _ (List.getElem?_eq_getElem hk))
  | error f =>
    obtain ⟨j, -, hj, hok⟩ := decodeWith_eq_error hfetch
    obtain hlt | rfl | hgt := lt_trichotomy j k
    · cases hj.symm.trans (State.memRead_ok (hbefore j hlt))
    · rw [step_of_fetchForm_error hfetch, Except.error.inj (hj.symm.trans hfault)]
    · obtain ⟨v, hv⟩ := hok k hgt
      cases hfault.symm.trans hv

/-- Settles O8: the instruction faults by definition, and its two bytes at PC are its encoding. -/
theorem undefinedOpcodeFaults : Obligations.UndefinedOpcodeFaults :=
  ⟨exec_invalid, fun p op s hundef hcode =>
    (step_of_holdsCode (g := .invalid p op) (by simp [formWellFormed, hundef]) hcode).trans (exec_invalid p op s)⟩

/-- Settles O3: each word is evaluated. -/
theorem writtenWordsDecode : Obligations.WrittenWordsDecode :=
  ⟨rfl, rfl, rfl, rfl, rfl, rfl, rfl, rfl, rfl, rfl, rfl⟩

/-- Settles O10: the reset state lists no memory, breakpoint or slot, and IM is 0. -/
theorem resetMeetsInvariant : Obligations.ResetMeetsInvariant :=
  ⟨rfl, by decide, rfl, rfl, rfl⟩

/-- Settles O20: each register is the constant that `State.cold` gives it, whatever the bus and the mode. -/
theorem coldReset : Obligations.ColdReset := by
  have hpair : join 0x00 0x00 = 0x0000 := by decide
  exact fun _ _ => ⟨hpair, hpair, hpair, hpair, rfl, rfl, rfl, rfl, rfl, rfl, rfl, rfl, rfl, rfl, rfl, rfl, rfl, rfl, rfl, rfl,
    rfl, rfl, rfl⟩

end Sys2Proof.Machine
end

section
/-! PUSH and then POP (R250, R252). -/

namespace Sys2Proof.Machine

/-- The state with a word pushed (R76). -/
def State.pushed (s : State) (v : Word) : State :=
  { (s.poke (s.sp - 1) (hi v)).poke (s.sp - 2) (lo v) with sp := s.sp - 2 }

theorem sub_two_add_one (a : Word) : a - 2 + 1 = a - 1 := by bv_omega

theorem sub_two_add_two (a : Word) : a - 2 + 2 = a := by bv_omega

variable {s : State}

theorem State.peek_pushed_low (hm : Memory.wf s.mem = true) (v : Word) : (s.pushed v).peek (s.sp - 2) = lo v :=
  State.peek_poke_same (State.wf_poke hm _ _) _ _

theorem State.peek_pushed_high (hm : Memory.wf s.mem = true) (v : Word) : (s.pushed v).peek (s.sp - 1) = hi v := by
  have hne : s.sp - 1 ≠ s.sp - 2 := by bv_omega
  exact (State.peek_poke_other _ _ hne).trans (State.peek_poke_same hm _ _)

/-- A word pushed is on top of the stack. -/
theorem State.stackTop_pushed (hm : Memory.wf s.mem = true) (v : Word) : (s.pushed v).stackTop = v := by
  have hsp : (s.pushed v).sp = s.sp - 2 := rfl
  rw [State.stackTop, hsp, sub_two_add_one, State.peek_pushed_low hm, State.peek_pushed_high hm, join_hi_lo]

/-- A stack pair written with its own value leaves the register file, whatever else the state holds. -/
theorem State.setStackPair_regs_eq {t : State} (h : t.regs = s.regs) (q : StackPair) :
    (t.setStackPair q (s.stackPair q)).regs = s.regs := by
  cases q <;> simp [State.setStackPair, State.stackPair, h]

/-- Settles O23: the pop finds the pair's two bytes where the push stored them, by `stackTop_pushed`. -/
theorem pushThenPop : Obligations.PushThenPop := by
  intro q s hm hw1 hw2 hr1 hr2
  have hpush : pushPair q s = .next ((s.pushed (s.stackPair q)).finish 1 11) := outcome_bind_ok (State.push16_ok hw1 hw2)
  have hread : s.canRead (s.sp - 2 + 1) = true := by rwa [sub_two_add_one]
  have htop : ((s.pushed (s.stackPair q)).finish 1 11).stackTop = s.stackPair q := State.stackTop_pushed hm _
  refine ⟨_, _, (exec_toInstr _ s).trans hpush, (exec_toInstr _ _).trans (popPair_ok hr2 hread q), ?_, ?_, rfl,
    State.peek_pushed_high hm _, State.peek_pushed_low hm _⟩
  · rw [htop, State.ended]
    exact State.setStackPair_regs_eq (by rfl) q
  · rw [State.ended, State.setStackPair_sp]
    exact sub_two_add_two s.sp

end Sys2Proof.Machine
end

section
/-! The breakpoint wrapper (R454). -/

namespace Sys2Proof.Machine

/-- Settles O26: the wrapper's answer in each of the cases of its definition. -/
theorem breakpointWrapper : Obligations.BreakpointWrapper := by
  intro s
  refine ⟨fun t b h hok hb => ?_, fun t h hnone => ?_, fun t p h hhalt => ?_, fun f h => ?_⟩
  · simp only [debugStep, h, hok, hb]
  · simp only [debugStep, h, hnone]
    cases t.result <;> rfl
  · simp only [debugStep, h, hhalt]
  · simp only [debugStep, h]

end Sys2Proof.Machine
end

section
/-! Sums and differences by their meaning (R159 to R171): what each flag says of the operands as numbers. -/

namespace Sys2Proof.Machine

/-! ## Bits and signs -/

/-- Bit 7 of a byte is its sign, as a number below 256. -/
theorem getElem_seven (x : Byte) : x[7] = decide (128 ≤ x.toNat) := by
  have hbit : x[7] = decide (x.toNat / 128 % 2 = 1) := Nat.testBit_eq_decide_div_mod_eq
  have hx := x.isLt
  rw [hbit, decide_eq_decide]
  omega

theorem getElem_eleven (x : Word) : x[11] = true ↔ 2048 ≤ x.toNat % 4096 := by
  have hbit : x[11] = decide (x.toNat / 2048 % 2 = 1) := Nat.testBit_eq_decide_div_mod_eq
  rw [hbit, decide_eq_true_eq]
  omega

theorem getElem_fifteen (x : Word) : x[15] = decide (32768 ≤ x.toNat) := by
  have hbit : x[15] = decide (x.toNat / 32768 % 2 = 1) := Nat.testBit_eq_decide_div_mod_eq
  have hx := x.isLt
  rw [hbit, decide_eq_decide]
  omega

/-- A byte as a signed number: 256 less where it is 128 or more (R7). -/
theorem toInt_byte_cases (x : Byte) : x.toNat < 128 ∧ x.toInt = x.toNat ∨ 128 ≤ x.toNat ∧ x.toInt = x.toNat - 256 := by
  rw [BitVec.toInt_eq_toNat_cond]
  split <;> omega

theorem toInt_word_cases (x : Word) :
    x.toNat < 32768 ∧ x.toInt = x.toNat ∨ 32768 ≤ x.toNat ∧ x.toInt = x.toNat - 65536 := by
  rw [BitVec.toInt_eq_toNat_cond]
  split <;> omega

/-- The high byte of a word has the word's upper bits. -/
@[simp] theorem getElem_hi (w : Word) (i : Nat) (h : i < 8) : (hi w)[i] = w[8 + i] := by
  simp [hi, BitVec.getLsbD_eq_getElem (show 8 + i < 16 by omega)]

/-! ## 8 bits -/

theorem flagPV_add8 (a v : Byte) (c : Bool) :
    flagPV (add8 a v c).2 = true ↔ a.toInt + v.toInt + c.toNat < -128 ∨ 127 < a.toInt + v.toInt + c.toNat := by
  have hbit : flagPV (add8 a v c).2 = (a[7] == v[7] && (add8 a v c).1[7] != a[7]) := by simp [flagPV, add8]
  have hc := c.toNat_le
  have ha := toInt_byte_cases a
  have hv := toInt_byte_cases v
  rw [hbit]
  simp only [Bool.and_eq_true, beq_iff_eq, bne_iff_ne, ne_eq, decide_eq_decide, getElem_seven]
  rw [toNat_add8]
  omega

theorem flagPV_sub8 (a v : Byte) (c : Bool) :
    flagPV (sub8 a v c).2 = true ↔ a.toInt - v.toInt - c.toNat < -128 ∨ 127 < a.toInt - v.toInt - c.toNat := by
  have hbit : flagPV (sub8 a v c).2 = (a[7] != v[7] && (sub8 a v c).1[7] != a[7]) := by simp [flagPV, sub8]
  have hc := c.toNat_le
  have ha := toInt_byte_cases a
  have hv := toInt_byte_cases v
  rw [hbit]
  simp only [Bool.and_eq_true, bne_iff_ne, ne_eq, decide_eq_decide, getElem_seven, toNat_sub8]
  omega

theorem toNat_and_low_digit (v : Byte) : (v &&& 0x0F).toNat = v.toNat % 16 :=
  Nat.and_two_pow_sub_one_eq_mod v.toNat 4

theorem toNat_inc8 (v old : Byte) : (inc8 v old).1.toNat = (v.toNat + 1) % 256 := BitVec.toNat_add v 1

theorem toNat_dec8 (v old : Byte) : (dec8 v old).1.toNat = (v.toNat + 255) % 256 := by
  have hsub : (dec8 v old).1.toNat = (256 - 1 + v.toNat) % 256 := BitVec.toNat_sub v 1
  omega

/-- A half carry of INC: the low digit was 15. -/
theorem flagH_inc8 (v old : Byte) : flagH (inc8 v old).2 = true ↔ v.toNat % 16 = 15 := by
  have hbit : flagH (inc8 v old).2 = ((inc8 v old).1 &&& 0x0F == 0) := by simp [flagH, inc8]
  rw [hbit, beq_iff_eq, ← BitVec.toNat_inj, toNat_and_low_digit, toNat_inc8]
  show _ = 0 ↔ _
  omega

theorem flagH_dec8 (v old : Byte) : flagH (dec8 v old).2 = true ↔ v.toNat % 16 = 0 := by
  have hbit : flagH (dec8 v old).2 = (v &&& 0x0F == 0) := by simp [flagH, dec8]
  rw [hbit, beq_iff_eq, ← BitVec.toNat_inj, toNat_and_low_digit]
  rfl

/-- INC overflows at 0x7F alone. -/
theorem flagPV_inc8 (v old : Byte) : flagPV (inc8 v old).2 = true ↔ 127 < v.toInt + 1 := by
  have hbit : flagPV (inc8 v old).2 = (v == 0x7F) := by simp [flagPV, inc8]
  have hv := toInt_byte_cases v
  rw [hbit, beq_iff_eq, ← BitVec.toNat_inj]
  show _ = 127 ↔ _
  omega

/-- DEC overflows at 0x80 alone. -/
theorem flagPV_dec8 (v old : Byte) : flagPV (dec8 v old).2 = true ↔ v.toInt - 1 < -128 := by
  have hbit : flagPV (dec8 v old).2 = (v == 0x80) := by simp [flagPV, dec8]
  have hv := toInt_byte_cases v
  rw [hbit, beq_iff_eq, ← BitVec.toNat_inj]
  show _ = 128 ↔ _
  omega

/-- Settles O42: the carries and the overflows by the lemmas above, and Z, S, Y and X by the bits of `sz53`. -/
theorem addAndSubtractFlags : Obligations.AddAndSubtractFlags := by
  refine ⟨fun a v c => ⟨⟨toNat_add8 a v c, flagC_add8 a v c, flagH_add8 a v c, flagPV_add8 a v c, flagN_add8 a v c, ?_⟩,
      ⟨?_, flagC_sub8 a v c, flagH_sub8 a v c, flagPV_sub8 a v c, flagN_sub8 a v c, ?_⟩⟩,
    fun v old => ⟨⟨toNat_inc8 v old, ?_, flagH_inc8 v old, flagPV_inc8 v old, ?_⟩,
      ⟨toNat_dec8 v old, ?_, flagH_dec8 v old, flagPV_dec8 v old, ?_⟩⟩⟩
  · simp [flagZ, flagS, flagY, flagX, add8]
  · have hc := c.toNat_le
    rw [toNat_sub8]
    omega
  · simp [flagZ, flagS, flagY, flagX, sub8]
  · simp [flagC, inc8]
  · simp [flagN, flagZ, flagS, flagY, flagX, inc8]
  · simp [flagC, dec8]
  · simp [flagN, flagZ, flagS, flagY, flagX, dec8]

/-! ## 16 bits -/

theorem toNat_add16 (x y : Word) (f : Byte) : (add16 x y f).1.toNat = (x.toNat + y.toNat) % 65536 := rfl

theorem toNat_adc16 (x y : Word) (c : Bool) : (adc16 x y c).1.toNat = (x.toNat + y.toNat + c.toNat) % 65536 := rfl

theorem toNat_sbc16 (x y : Word) (c : Bool) : (sbc16 x y c).1.toNat = (x.toNat + 131072 - y.toNat - c.toNat) % 65536 := by
  have hc := c.toNat_le
  simp only [sbc16, BitVec.toNat_ofInt]
  omega

/-- H of a 16-bit sum is the carry out of bit 11. -/
theorem flagH_add16 (x y : Word) (f : Byte) : flagH (add16 x y f).2 = true ↔ 4096 ≤ x.toNat % 4096 + y.toNat % 4096 := by
  have hbit : flagH (add16 x y f).2 = (x[11] && y[11] || (x[11] || y[11]) && !(add16 x y f).1[11]) := by simp [flagH, add16]
  rw [hbit]
  simp only [Bool.or_eq_true, Bool.and_eq_true, Bool.not_eq_true', ← Bool.not_eq_true, getElem_eleven, toNat_add16]
  omega

theorem flagH_adc16 (x y : Word) (c : Bool) :
    flagH (adc16 x y c).2 = true ↔ 4096 ≤ x.toNat % 4096 + y.toNat % 4096 + c.toNat := by
  have hbit : flagH (adc16 x y c).2 = (x[11] && y[11] || (x[11] || y[11]) && !(adc16 x y c).1[11]) := by simp [flagH, adc16]
  have hc := c.toNat_le
  rw [hbit]
  simp only [Bool.or_eq_true, Bool.and_eq_true, Bool.not_eq_true', ← Bool.not_eq_true, getElem_eleven, toNat_adc16]
  omega

theorem flagH_sbc16 (x y : Word) (c : Bool) :
    flagH (sbc16 x y c).2 = true ↔ x.toNat % 4096 < y.toNat % 4096 + c.toNat := by
  have hbit : flagH (sbc16 x y c).2 = (!x[11] && y[11] || (!x[11] || y[11]) && (sbc16 x y c).1[11]) := by simp [flagH, sbc16]
  have hc := c.toNat_le
  rw [hbit]
  simp only [Bool.or_eq_true, Bool.and_eq_true, Bool.not_eq_true', ← Bool.not_eq_true, getElem_eleven, toNat_sbc16]
  omega

theorem flagPV_adc16 (x y : Word) (c : Bool) :
    flagPV (adc16 x y c).2 = true ↔ x.toInt + y.toInt + c.toNat < -32768 ∨ 32767 < x.toInt + y.toInt + c.toNat := by
  have hbit : flagPV (adc16 x y c).2 = (x[15] == y[15] && (adc16 x y c).1[15] != x[15]) := by simp [flagPV, adc16]
  have hc := c.toNat_le
  have hx := toInt_word_cases x
  have hy := toInt_word_cases y
  rw [hbit]
  simp only [Bool.and_eq_true, beq_iff_eq, bne_iff_ne, ne_eq, decide_eq_decide, getElem_fifteen]
  rw [toNat_adc16]
  omega

theorem flagPV_sbc16 (x y : Word) (c : Bool) :
    flagPV (sbc16 x y c).2 = true ↔ x.toInt - y.toInt - c.toNat < -32768 ∨ 32767 < x.toInt - y.toInt - c.toNat := by
  have hbit : flagPV (sbc16 x y c).2 = (x[15] != y[15] && (sbc16 x y c).1[15] != x[15]) := by simp [flagPV, sbc16]
  have hc := c.toNat_le
  have hx := toInt_word_cases x
  have hy := toInt_word_cases y
  rw [hbit]
  simp only [Bool.and_eq_true, bne_iff_ne, ne_eq, decide_eq_decide, getElem_fifteen, toNat_sbc16]
  omega

/-- Settles O45: H and PV by the lemmas above, C as the comparison it is, and the other flags by the bits of the high byte. -/
theorem wordArithmeticFlags : Obligations.WordArithmeticFlags := by
  refine ⟨fun x y f => ⟨BitVec.eq_of_toNat_eq (BitVec.toNat_add x y).symm, ?_, flagH_add16 x y f, ?_⟩,
    fun x y c => ⟨toNat_adc16 x y c, ?_, flagH_adc16 x y c, flagPV_adc16 x y c, ?_⟩,
    fun x y c => ⟨?_, ?_, flagH_sbc16 x y c, flagPV_sbc16 x y c, ?_⟩⟩
  · simp [flagC, add16, Nat.succ_le_iff]
  · simp [flagN, flagS, flagZ, flagPV, flagX, flagY, add16]
  · simp [flagC, adc16, Nat.succ_le_iff]
  · simp [flagN, flagS, flagZ, flagX, flagY, adc16]
  · have hc := c.toNat_le
    rw [toNat_sbc16]
    omega
  · have hbit : flagC (sbc16 x y c).2 = decide ((x.toNat : Int) - y.toNat - c.toNat < 0) := by simp [flagC, sbc16]
    rw [hbit, decide_eq_true_eq]
    omega
  · simp [flagN, flagS, flagZ, flagX, flagY, sbc16]

end Sys2Proof.Machine
end

section
/-! The host's load and dump (R85, R470), and building the bus (R84). -/

namespace Sys2Proof.Memory

/-- Every byte of a load is read back at its address. -/
theorem read_writeMany_same {m : List Host.Cell} {a k : Nat} {bytes : List Byte} {v : Byte} (h : wf m = true)
    (ha : a + bytes.length ≤ addressCount) (hk : bytes[k]? = some v) : read (writeMany m a bytes) (a + k) = v := by
  induction bytes generalizing m a k with
  | nil => simp at hk
  | cons w rest ih =>
    rw [List.length_cons] at ha
    cases k with
    | zero =>
      obtain rfl : w = v := by simpa using hk
      exact (read_writeMany_other _ rest (by omega)).trans (read_write_same h a w)
    | succ k =>
      rw [writeMany, Nat.add_comm k 1, ← Nat.add_assoc]
      exact ih (wf_write w h (by omega)) (by omega) (by simpa using hk)

end Sys2Proof.Memory

namespace Sys2Proof.Machine

/-- Settles O24: the loaded bytes by `read_writeMany_same`, the others by `read_writeMany_other`. -/
theorem loadThenDump : Obligations.LoadThenDump := by
  intro s a bytes hm
  refine ⟨fun hpast => if_neg (by omega), fun hfits => ⟨_, if_pos hfits, Memory.wf_writeMany bytes hm hfits, ?_,
    fun b hb => Memory.read_writeMany_other s.mem bytes hb, rfl⟩⟩
  rw [State.dump, if_pos hfits]
  refine congrArg some (List.ext_getElem (by simp) fun k hk hk' => ?_)
  simpa using Memory.read_writeMany_same hm hfits (List.getElem?_eq_getElem hk')

/-! ## The bus -/

/-- A declaration is accepted exactly when its size is whole pages, it ends within memory and its image fits (R84). -/
theorem Region.check_eq_none_iff (r : Region) :
    r.check = none ↔ r.size % 1024 = 0 ∧ r.base + r.size ≤ 65536 ∧ r.image.length ≤ r.size := by
  unfold Region.check pageSize addressCount
  repeat' split
  all_goals simp only [reduceCtorEq, false_iff, true_iff]
  all_goals omega

/-- The images of accepted declarations give memory in its canonical form. -/
theorem wf_loadImages {regions : List Region} (h : ∀ r ∈ regions, r.base + r.size ≤ 65536 ∧ r.image.length ≤ r.size) :
    Memory.wf (loadImages regions) = true := by
  refine List.foldlRecOn regions _ (motive := fun m => Memory.wf m = true) rfl fun m hm r hr => Memory.wf_writeMany _ hm ?_
  obtain ⟨hend, himage⟩ := h r hr
  exact (Nat.add_le_add_left himage _).trans hend

/-- The last declaration that covers a page gives its attributes. -/
theorem pageAttr_of_last {early late : List Region} {r : Region} {p : Nat} (hr : r.covers p = true)
    (hlate : ∀ r' ∈ late, r'.covers p = false) : pageAttr (early ++ r :: late) p = r.attr := by
  have hnone : late.filter (fun r' => r'.covers p) = [] := List.filter_eq_nil_iff.mpr fun r' hr' => by simp [hlate r' hr']
  simp [pageAttr, hr, hnone]

/-- A page that no declaration covers is unmapped. -/
theorem pageAttr_of_none {regions : List Region} {p : Nat} (h : ∀ r ∈ regions, r.covers p = false) :
    pageAttr regions p = PageAttr.unmapped := by
  have hnone : regions.filter (fun r => r.covers p) = [] := List.filter_eq_nil_iff.mpr fun r hr => by simp [h r hr]
  simp [pageAttr, hnone]

/-- Settles O25: construction fails exactly when a declaration's check does, and the pages are `pageAttr`'s. -/
theorem busConstruction : Obligations.BusConstruction := by
  intro regions decls
  constructor
  · rintro ⟨r, hr, hbad⟩
    cases hfind : regions.findSome? Region.check with
    | none =>
      obtain ⟨hsize, hend, himage⟩ := r.check_eq_none_iff.mp (List.findSome?_eq_none_iff.mp hfind r hr)
      omega
    | some e => exact ⟨e, by simp only [buildBus, hfind]⟩
  · intro h
    have hfind : regions.findSome? Region.check = none :=
      List.findSome?_eq_none_iff.mpr fun r hr => r.check_eq_none_iff.mpr (h r hr)
    refine ⟨_, by simp only [buildBus, hfind]; rfl, wf_loadImages fun r hr => (h r hr).2, ?_, fun p hp => ?_⟩
    · rintro early late r p rfl hr hlate
      simp [pageAttr_of_last hr hlate]
    · simp [pageAttr_of_none hp]

end Sys2Proof.Machine
end

section
/-! The breakpoint map (R44, R468). -/

namespace Sys2Proof.Machine

variable {l : List Breakpoint} {low : Nat} {b : Breakpoint}

theorem breakpointsWfFrom_mono {low' : Nat} (h : breakpointsWfFrom low l = true) (hle : low' ≤ low) :
    breakpointsWfFrom low' l = true := by
  cases l with
  | nil => rfl
  | cons x rest =>
    simp only [breakpointsWfFrom, Bool.and_eq_true, decide_eq_true_eq] at h ⊢
    exact ⟨⟨hle.trans h.1.1, h.1.2⟩, h.2⟩

/-- Inserting keeps the addresses strictly rising. -/
theorem breakpointsWfFrom_insertBreakpoint (h : breakpointsWfFrom low l = true) (hlow : low ≤ b.addr) (hb : b.addr < addressCount) :
    breakpointsWfFrom low (insertBreakpoint l b) = true := by
  induction l generalizing low with
  | nil => simp [insertBreakpoint, breakpointsWfFrom, hlow, hb]
  | cons x rest ih =>
    simp only [breakpointsWfFrom, Bool.and_eq_true, decide_eq_true_eq] at h
    obtain ⟨⟨hxlow, hx⟩, hrest⟩ := h
    rw [insertBreakpoint]
    split_ifs with hlt heq <;> simp only [breakpointsWfFrom, Bool.and_eq_true, decide_eq_true_eq]
    · exact ⟨⟨hlow, hb⟩, ⟨hlt, hx⟩, hrest⟩
    · exact ⟨⟨hlow, hb⟩, heq ▸ hrest⟩
    · exact ⟨⟨hxlow, hx⟩, ih hrest (by omega)⟩

/-- Removing breakpoints keeps the addresses strictly rising. -/
theorem breakpointsWfFrom_filter (h : breakpointsWfFrom low l = true) (p : Breakpoint → Bool) :
    breakpointsWfFrom low (l.filter p) = true := by
  induction l generalizing low with
  | nil => rfl
  | cons x rest ih =>
    simp only [breakpointsWfFrom, Bool.and_eq_true, decide_eq_true_eq] at h
    obtain ⟨⟨hxlow, hx⟩, hrest⟩ := h
    rw [List.filter_cons]
    split_ifs
    · simp only [breakpointsWfFrom, Bool.and_eq_true, decide_eq_true_eq]
      exact ⟨⟨hxlow, hx⟩, ih hrest⟩
    · exact breakpointsWfFrom_mono (ih hrest) (by omega)

/-- The breakpoint inserted is found at its address. -/
theorem find?_insertBreakpoint_same (l : List Breakpoint) (b : Breakpoint) :
    (insertBreakpoint l b).find? (fun x => x.addr == b.addr) = some b := by
  induction l with
  | nil => simp [insertBreakpoint]
  | cons x rest ih =>
    rw [insertBreakpoint]
    split_ifs with hlt heq
    · simp
    · simp
    · rw [List.find?_cons_of_neg (by simpa using fun e => heq e.symm), ih]

/-- At every other address the map finds what it found. -/
theorem find?_insertBreakpoint_other (l : List Breakpoint) {b : Breakpoint} {k : Nat} (hk : b.addr ≠ k) :
    (insertBreakpoint l b).find? (fun x => x.addr == k) = l.find? (fun x => x.addr == k) := by
  have hskip : ∀ rest : List Breakpoint, (b :: rest).find? (fun x => x.addr == k) = rest.find? (fun x => x.addr == k) :=
    fun rest => List.find?_cons_of_neg (by simpa using hk)
  induction l with
  | nil => exact hskip []
  | cons x rest ih =>
    rw [insertBreakpoint]
    split_ifs with hlt heq
    · exact hskip _
    · rw [hskip, List.find?_cons_of_neg (by simpa [← heq] using hk)]
    · rw [List.find?_cons, List.find?_cons, ih]

theorem insertBreakpoint_ne_nil (l : List Breakpoint) (b : Breakpoint) : insertBreakpoint l b ≠ [] := by
  cases l with
  | nil => simp [insertBreakpoint]
  | cons x rest =>
    rw [insertBreakpoint]
    split_ifs <;> simp

/-- Settles O27: what is found by `find?_insertBreakpoint_same`, `find?_insertBreakpoint_other` and the removal's filter. -/
theorem breakpointMap : Obligations.BreakpointMap := by
  intro s a c ⟨hmem, him, hbreakpoints, hflag, hslots⟩
  have hne : ∀ b : Word, b ≠ a → a.toNat ≠ b.toNat := fun b hb e => hb (BitVec.eq_of_toNat_eq e.symm)
  refine ⟨⟨hmem, him, ?_, ?_, hslots⟩, ⟨hmem, him, breakpointsWfFrom_filter hbreakpoints _, ?_, hslots⟩, rfl,
    find?_insertBreakpoint_same s.breakpoints ⟨a.toNat, c⟩,
    fun b hb => find?_insertBreakpoint_other s.breakpoints (b := ⟨a.toNat, c⟩) (hne b hb), ?_, fun b hb => ?_, fun b => ?_⟩
  · exact breakpointsWfFrom_insertBreakpoint hbreakpoints (Nat.zero_le _) a.isLt
  · simp [State.setBreakpoint, insertBreakpoint_ne_nil]
  · cases hrest : s.breakpoints.filter (fun b => b.addr != a.toNat) with
    | nil => simp [State.deleteBreakpoint, hrest]
    | cons x rest =>
      have hmem : x ∈ s.breakpoints := List.mem_of_mem_filter (hrest ▸ List.mem_cons_self)
      have hset : s.debugFlag = true := by simp [hflag, List.ne_nil_of_mem hmem]
      simp [State.deleteBreakpoint, hrest, hset]
  · simp [State.breakpointAt, State.deleteBreakpoint, List.find?_eq_none]
  · have hkeep : ∀ x : Breakpoint,
        decide ((x.addr != a.toNat) = true ∧ (x.addr == b.toNat) = true) = (x.addr == b.toNat) := by
      intro x
      by_cases hx : x.addr = b.toNat <;> simp [hx, (hne b hb).symm]
    simp only [State.breakpointAt, State.deleteBreakpoint, List.find?_filter, hkeep]
  · simp [State.listBreakpoints, State.breakpointAt, List.find?_isSome]

end Sys2Proof.Machine
end

section
/-! A run (R466, R469, R471): how one step ends, and how the driver's loop ends with it. -/

namespace Sys2Proof.Machine

/-- A step completes with `Ok`, reports `Halt` with PC at the HALT, or faults: no instruction is refused. -/
theorem step_cases (s : State) :
    (∃ t, step s = .next t ∧ t.result = .ok) ∨ (∃ t, step s = .next t ∧ t.result = .halt s.pc ∧ t.pc = s.pc) ∨
      ∃ f, step s = .fault f := by
  cases hfetch : s.fetchForm with
  | error f => exact .inr (.inr ⟨f, step_of_fetchForm_error hfetch⟩)
  | ok g =>
    have hprecise := conditionsArePrecise g.toInstr s
    rw [step_of_fetchForm hfetch]
    by_cases hhalt : g.toInstr = .halt
    · rw [hhalt]
      exact .inr (.inl ⟨_, rfl, rfl, rfl⟩)
    · cases hexec : exec g.toInstr s with
      | next t =>
        rw [hexec] at hprecise
        exact .inl ⟨t, rfl, hprecise.2 hhalt⟩
      | fault f => exact .inr (.inr ⟨f, rfl⟩)
      | refused q =>
        rw [hexec] at hprecise
        exact hprecise.elim

variable {s t : State}

/-- A run of one step more, by its first step. -/
theorem run_succ (h : step s = .next t) (k : Nat) : Sys2Proof.core.run (k + 1) s = Sys2Proof.core.run k t := by
  have hcore : Sys2Proof.core.step s = .next t := h
  simp only [Host.Core.run, hcore]

/-- Where a shutdown request is pending the driver stops before the step (R466). -/
theorem drive_shutdown (h : s.shutdownReasons ≠ []) (n : Nat) : drive (n + 1) s = .shutdown s := by
  simp [drive, h]

/-- A driver that ends with a step of its own, or goes on after one that ended with `Ok`. -/
theorem drive_succ (h : s.shutdownReasons = []) (n : Nat) :
    (∃ t, step s = .next t ∧ t.result = .ok ∧ drive (n + 1) s = drive n t) ∨
      (∃ t, step s = .next t ∧ t.result = .halt s.pc ∧ t.pc = s.pc ∧ drive (n + 1) s = .halted t) ∨
      ∃ f, step s = .fault f ∧ drive (n + 1) s = .faulted f := by
  obtain ⟨t, hstep, hok⟩ | ⟨t, hstep, hhalt, hpc⟩ | ⟨f, hstep⟩ := step_cases s
  · exact .inl ⟨t, hstep, hok, by simp [drive, h, hstep, hok]⟩
  · exact .inr (.inl ⟨t, hstep, hhalt, hpc, by simp [drive, h, hstep, hhalt]⟩)
  · exact .inr (.inr ⟨f, hstep, by simp [drive, h, hstep]⟩)

/-- A driver that reports `Halt` took steps that ended with `Ok` and then a HALT. -/
theorem steps_of_drive_halted {n : Nat} (h : drive n s = .halted t) :
    ∃ k u, k < n ∧ Sys2Proof.core.run k s = .next u ∧ step u = .next t ∧ t.result = .halt u.pc ∧ t.pc = u.pc ∧
      ∀ j v, 0 < j → j ≤ k → Sys2Proof.core.run j s = .next v → v.result = .ok := by
  induction n generalizing s with
  | zero => cases h
  | succ n ih =>
    by_cases hdown : s.shutdownReasons = []
    · obtain ⟨s', hstep, hok, hdrive⟩ | ⟨t', hstep, hhalt, hpc, hdrive⟩ | ⟨f, -, hdrive⟩ := drive_succ hdown n
      · obtain ⟨k, u, hk, hrun, hlast, hhalt, hpc, hsteps⟩ := ih (hdrive.symm.trans h)
        refine ⟨k + 1, u, by omega, (run_succ hstep k).trans hrun, hlast, hhalt, hpc, fun j v hj hjk hv => ?_⟩
        obtain ⟨i, rfl⟩ := Nat.exists_eq_succ_of_ne_zero hj.ne'
        have hv' : Sys2Proof.core.run i s' = .next v := (run_succ hstep i).symm.trans hv
        cases i with
        | zero => cases hv'; exact hok
        | succ i => exact hsteps (i + 1) v (by omega) (by omega) hv'
      · cases hdrive.symm.trans h
        exact ⟨0, s, by omega, rfl, hstep, hhalt, hpc, fun j _ hj hj0 => by omega⟩
      · cases hdrive.symm.trans h
    · cases (drive_shutdown hdown n).symm.trans h

/-- A driver that faults does so at a step that faults. -/
theorem step_of_drive_faulted {n : Nat} {f : Fault} (h : drive n s = .faulted f) :
    ∃ k u, k < n ∧ Sys2Proof.core.run k s = .next u ∧ step u = .fault f := by
  induction n generalizing s with
  | zero => cases h
  | succ n ih =>
    by_cases hdown : s.shutdownReasons = []
    · obtain ⟨s', hstep, -, hdrive⟩ | ⟨t', -, -, -, hdrive⟩ | ⟨f', hstep, hdrive⟩ := drive_succ hdown n
      · obtain ⟨k, u, hk, hrun, hlast⟩ := ih (hdrive.symm.trans h)
        exact ⟨k + 1, u, by omega, (run_succ hstep k).trans hrun, hlast⟩
      · cases hdrive.symm.trans h
      · cases hdrive.symm.trans h
        exact ⟨0, s, by omega, rfl, hstep⟩
    · cases (drive_shutdown hdown n).symm.trans h

/-- Settles O28: the driver's ends by induction on its budget, one step at a time (`drive_succ`). -/
theorem runEnds : Obligations.RunEnds :=
  ⟨fun _ _ _ => steps_of_drive_halted, fun _ _ _ => step_of_drive_faulted, fun n _ h => drive_shutdown h n⟩

end Sys2Proof.Machine
end

section
/-! What the devices answer (R81, R82, R462, R464, R465). -/

namespace Sys2Proof.Machine

/-- An element that is replaced is the new one. -/
theorem getElem?_replaceAt_same {α : Type} {l : List α} {k : Nat} {y : α} (h : l[k]? = some y) (x : α) :
    (replaceAt l k x)[k]? = some x := by
  induction l generalizing k with
  | nil => cases h
  | cons z rest ih =>
    cases k with
    | zero => rfl
    | succ k => exact ih h

theorem getLsbD_zero_consoleStatus (c : Console) (free : Byte) : (consoleStatus c free).getLsbD 0 = true := by
  simp [consoleStatus]

/-- Bit 1 of the status is the buffer (R464). -/
theorem getLsbD_one_consoleStatus (c : Console) (free : Byte) : (consoleStatus c free).getLsbD 1 = c.buffer.isSome := by
  cases hb : c.buffer.isSome <;> simp [consoleStatus, hb]

variable {s : State} {port v : Byte} {sl : IoSlot}

/-- A port a device owns reads from the device, and its effect on the devices is the device's. -/
theorem State.ioRead_of_slot (h : slotOf s.slots port = some sl) :
    (s.ioRead port).1 = (s.deviceRead port sl).1 ∧ (s.ioRead port).2.devices = (s.deviceRead port sl).2.devices := by
  simp [State.ioRead, State.portRead, h]

theorem State.devices_ioWrite_of_slot (h : slotOf s.slots port = some sl) :
    (s.ioWrite port v).devices = (s.deviceWrite port sl v).devices := by
  simp [State.ioWrite, State.portWrite, h]

/-- A write to a port no device owns is traced and does nothing else (R82). -/
theorem State.ioWrite_of_no_slot (h : slotOf s.slots port = none) :
    s.ioWrite port v = { s with ioTrace := s.ioTrace ++ [.output port v] } := by
  simp [State.ioWrite, State.portWrite, h]

theorem State.slots_ioWrite (s : State) (port v : Byte) : (s.ioWrite port v).slots = s.slots := by
  rw [State.ioWrite_frame]

/-- A device that is put in place of another is found there. -/
theorem State.getElem?_setDevice {t : State} {k : Nat} {old : Device} (hdevices : t.devices = s.devices)
    (h : s.devices[k]? = some old) (new : Device) : (t.setDevice k new).devices[k]? = some new := by
  rw [State.setDevice_devices, hdevices]
  exact getElem?_replaceAt_same h new

/-- A latch returns the last byte written to it (R465). -/
theorem State.ioRead_ioWrite_latch {w : Byte} {down : Bool} (hslot : slotOf s.slots port = some sl)
    (hdev : s.devices[sl.device]? = some ⟨.latch w, down⟩) : ((s.ioWrite port v).ioRead port).1 = v := by
  have hslot' : slotOf (s.ioWrite port v).slots port = some sl := (State.slots_ioWrite s port v).symm ▸ hslot
  have hdev' : (s.ioWrite port v).devices[sl.device]? = some ⟨.latch v, down⟩ := by
    rw [State.devices_ioWrite_of_slot hslot]
    simp only [State.deviceWrite, hdev]
    exact State.getElem?_setDevice rfl hdev _
  rw [(State.ioRead_of_slot hslot').1]
  simp [State.deviceRead, hdev']

theorem State.devices_consoleArrival (s : State) (port : Byte) (c : Console) : (s.consoleArrival port c).2.devices = s.devices := by
  obtain ⟨l, n, h⟩ := State.consoleArrival_frame s port c
  rw [h]

section
variable {c : Console} {down : Bool} (hslot : slotOf s.slots port = some sl)
  (hdev : s.devices[sl.device]? = some ⟨.console c, down⟩)
include hslot hdev

/-- A read of the data port gives the buffered byte, one that arrives at the read among them, and empties the buffer. -/
theorem State.ioRead_consoleData (h0 : port.toNat - sl.base = 0) :
    (s.ioRead port).1 = (s.consoleArrival port c).1.buffer.getD 0xFF ∧
      (s.ioRead port).2.devices[sl.device]? = some ⟨.console { c with buffer := none }, down⟩ := by
  have hread : s.deviceRead port sl = s.consoleDataRead port sl.device c down := by simp [State.deviceRead, hdev, h0]
  obtain ⟨hvalue, hdevices⟩ := State.ioRead_of_slot hslot
  rw [hvalue, hdevices, hread]
  refine ⟨rfl, (State.getElem?_setDevice (State.devices_consoleArrival s port c) hdev _).trans ?_⟩
  rw [State.consoleArrival_console]

/-- A read of the status port shows whether a byte is buffered and keeps the buffer. -/
theorem State.ioRead_consoleStatus (h1 : port.toNat - sl.base = 1) :
    (s.ioRead port).1.getLsbD 0 = true ∧ (s.ioRead port).1.getLsbD 1 = (s.consoleArrival port c).1.buffer.isSome ∧
      (s.ioRead port).2.devices[sl.device]? = some ⟨.console { c with buffer := (s.consoleArrival port c).1.buffer }, down⟩ := by
  have hread : s.deviceRead port sl = s.consoleStatusRead port sl.device c down := by simp [State.deviceRead, hdev, h1]
  have hdraw : ((s.consoleArrival port c).2.draw port).2.devices = s.devices := by
    rw [State.draw_frame]
    exact State.devices_consoleArrival s port c
  obtain ⟨hvalue, hdevices⟩ := State.ioRead_of_slot hslot
  rw [hvalue, hdevices, hread]
  refine ⟨getLsbD_zero_consoleStatus _ _, getLsbD_one_consoleStatus _ _, (State.getElem?_setDevice hdraw hdev _).trans ?_⟩
  rw [← State.consoleArrival_console]

/-- A byte written to the data port is emitted when TXEN is set. -/
theorem State.ioWrite_consoleData (h0 : port.toNat - sl.base = 0) :
    (s.ioWrite port v).devices[sl.device]? =
      some ⟨.console { c with emitted := if c.txen then c.emitted ++ [v] else c.emitted }, down⟩ := by
  rw [State.devices_ioWrite_of_slot hslot]
  simp only [State.deviceWrite, hdev, h0, if_true]
  exact State.getElem?_setDevice rfl hdev _

/-- The first byte written to the status port is the mode byte. -/
theorem State.ioWrite_consoleMode (h1 : port.toNat - sl.base = 1) (hmode : c.modeByte = none) :
    (s.ioWrite port v).devices[sl.device]? = some ⟨.console { c with modeByte := some v }, down⟩ := by
  rw [State.devices_ioWrite_of_slot hslot]
  simp only [State.deviceWrite, hdev, h1, hmode, one_ne_zero, if_true, if_false]
  exact State.getElem?_setDevice rfl hdev _

/-- A later byte written to the status port is a command. -/
theorem State.ioWrite_consoleCommand (h1 : port.toNat - sl.base = 1) (hmode : c.modeByte ≠ none) :
    (s.ioWrite port v).devices[sl.device]? = some ⟨.console { c with
      txen := (Config.consoleCommand v (c.txen, c.rxen)).1
      rxen := (Config.consoleCommand v (c.txen, c.rxen)).2 }, down⟩ := by
  obtain ⟨m, hm⟩ := Option.ne_none_iff_exists'.mp hmode
  rw [State.devices_ioWrite_of_slot hslot]
  simp only [State.deviceWrite, hdev, h1, hm, one_ne_zero, if_true, if_false]
  exact State.getElem?_setDevice rfl hdev _

end

/-- Settles O58: the latch's and the console's accesses by the lemmas above, and what no access changes by the frames of `ioRead` and
`ioWrite`. -/
theorem deviceAnswers : Obligations.DeviceAnswers := by
  intro s port v sl
  refine ⟨fun hslot w down hdev => State.ioRead_ioWrite_latch hslot hdev, fun hslot c down hdev => ?_, State.ioWrite_of_no_slot,
    rfl, rfl, ?_, ?_⟩
  · intro arrived
    have harrived : arrived = (s.consoleArrival port c).1.buffer := by
      cases hb : c.buffer with
      | some b => simp [arrived, hb, State.consoleArrival_full hb]
      | none =>
        cases ha : (s.draw port).1.getLsbD 1 with
        | true => simp [arrived, hb, ha, State.consoleArrival_arrives hb ha]
        | false => simp only [arrived, hb, ha, State.consoleArrival_none hb ha, Bool.false_eq_true, if_false]
    rw [harrived]
    refine ⟨fun h0 => ?_, fun h1 => ?_⟩
    · obtain ⟨hvalue, hafter⟩ := State.ioRead_consoleData hslot hdev h0
      exact ⟨hvalue, hafter, State.ioWrite_consoleData hslot hdev h0⟩
    · obtain ⟨hready, hbuffered, hafter⟩ := State.ioRead_consoleStatus hslot hdev h1
      exact ⟨hready, hbuffered, hafter, State.ioWrite_consoleMode hslot hdev h1, State.ioWrite_consoleCommand hslot hdev h1⟩
  · rw [State.ioRead_frame]
  · rw [State.ioWrite_frame]

end Sys2Proof.Machine
end

section
/-! LDIR over a block (R390, R392): one step from a state in which its two bytes stand at PC, and the run by induction on
the bytes copied. -/

namespace Sys2Proof.Machine

variable {s t : State}

/-- A run of one step more, by its last step. -/
theorem run_succ_of_run {k : Nat} (h : Sys2Proof.core.run k s = .next t) : Sys2Proof.core.run (k + 1) s = step t := by
  induction k generalizing s with
  | zero =>
    cases h
    cases hstep : step t <;> simp [Host.Core.run, Sys2Proof.core, hstep]
  | succ k ih =>
    cases hstep : step s with
    | next u => exact (run_succ hstep (k + 1)).trans (ih ((run_succ hstep k).symm.trans h))
    | fault f => simp [Host.Core.run, Sys2Proof.core, hstep] at h
    | refused q => simp [Host.Core.run, Sys2Proof.core, hstep] at h

/-- PV after one iteration of a move: clear when BC has become 0 (R184). -/
theorem flagPV_blockmoveFlags_zero (a v old : Byte) : flagPV (blockmoveFlags a v 0 old) = false := by
  obtain ⟨-, -, -, -, -, hpv, -⟩ := blockMoveAndCompare.2.2.1 a v 0 old
  simpa using hpv

/-- One step of LDIR: the byte at HL is stored at DE, the pointers step up, and it repeats until BC is 0. -/
theorem step_ldir (hcode : t.holdsCode t.pc [0xED, 0xB0]) (hread : t.canRead t.hl = true) (hwrite : t.canWrite t.de = true) :
    ∃ u, step t = .next u ∧ u.mem = (t.poke t.de (t.peek t.hl)).mem ∧ u.pages = t.pages ∧
      u.bc = t.bc - 1 ∧ u.hl = t.hl + 1 ∧ u.de = t.de + 1 ∧
      (t.bc - 1 ≠ 0 → u.pc = t.pc ∧ u.cycles = t.cycles + 21) ∧
      (t.bc - 1 = 0 → u.pc = t.pc + 2 ∧ u.cycles = t.cycles + 16 ∧ flagPV u.regs.f = false) := by
  obtain ⟨-, hexec⟩ := blockMoveAndCompare.1 false true t hread hwrite
  have hstep := (step_of_holdsCode (g := .block .ldir) rfl hcode).trans hexec
  by_cases hlast : t.bc - 1 = 0
  · simp only [hlast, blockEnded, bne_self_eq_false, Bool.and_false, Bool.false_eq_true, if_false] at hstep
    exact ⟨_, hstep, rfl, rfl, (join_hi_lo 0).trans hlast.symm, join_hi_lo _, join_hi_lo _, fun h => absurd hlast h,
      fun _ => ⟨rfl, rfl, flagPV_blockmoveFlags_zero _ _ _⟩⟩
  · simp only [blockEnded, bne_iff_ne.mpr hlast, Bool.and_true, if_true] at hstep
    exact ⟨_, hstep, rfl, rfl, join_hi_lo _, join_hi_lo _, join_hi_lo _, fun _ => ⟨rfl, rfl⟩, fun h => absurd h hlast⟩

/-- `t` is `s` after LDIR has copied `k` bytes: what the copy has done to memory and to the pairs. -/
structure Copied (s : State) (k : Nat) (t : State) : Prop where
  wf : Memory.wf t.mem = true
  pages : t.pages = s.pages
  bc : t.bc = s.bc - BitVec.ofNat 16 k
  hl : t.hl = s.hl + BitVec.ofNat 16 k
  de : t.de = s.de + BitVec.ofNat 16 k
  copied : ∀ j, j < k → t.peek (s.de + BitVec.ofNat 16 j) = s.peek (s.hl + BitVec.ofNat 16 j)
  kept : ∀ a : Word, (∀ j, j < k → a ≠ s.de + BitVec.ofNat 16 j) → t.peek a = s.peek a

theorem copied_zero (hm : Memory.wf s.mem = true) : Copied s 0 s where
  wf := hm
  pages := rfl
  bc := (BitVec.sub_zero _).symm
  hl := (BitVec.add_zero _).symm
  de := (BitVec.add_zero _).symm
  copied := fun _ hj => absurd hj (Nat.not_lt_zero _)
  kept := fun _ _ => rfl

/-- Addresses at different distances below 2^16 differ. -/
theorem add_ofNat_ne (a : Word) {j k : Nat} (hjk : j < k) (hk : k < 65536) : a + BitVec.ofNat 16 j ≠ a + BitVec.ofNat 16 k := by
  intro h
  have hnat := congrArg BitVec.toNat (BitVec.add_right_inj _ |>.mp h)
  simp only [BitVec.toNat_ofNat] at hnat
  omega

theorem add_ofNat_succ (a : Word) (k : Nat) : a + BitVec.ofNat 16 k + 1 = a + BitVec.ofNat 16 (k + 1) := by
  rw [BitVec.ofNat_add, BitVec.add_assoc]
  rfl

/-- BC after `k` steps is 0 where `k` is the block's length. -/
theorem sub_ofNat_eq_zero_iff {bc : Word} {n k : Nat} (hn : n = if bc = 0 then 65536 else bc.toNat) (h0 : 0 < k) (hk : k ≤ n) :
    bc - BitVec.ofNat 16 k = 0 ↔ k = n := by
  have hlt := bc.isLt
  rw [sub_eq_zero, ← BitVec.toNat_inj, BitVec.toNat_ofNat]
  split at hn
  · next hbc =>
    have hbc0 : bc.toNat = 0 := congrArg BitVec.toNat hbc
    omega
  · omega

section
variable {n : Nat} (hn : n = if s.bc = 0 then 65536 else s.bc.toNat) (hcode : s.holdsCode s.pc [0xED, 0xB0])
  (hpages : ∀ k, k < n → s.canRead (s.hl + BitVec.ofNat 16 k) = true ∧ s.canWrite (s.de + BitVec.ofNat 16 k) = true)
  (horder : ∀ j k, j < k → k < n → s.de + BitVec.ofNat 16 j ≠ s.hl + BitVec.ofNat 16 k)
  (hown : ∀ k, k < n → (s.de + BitVec.ofNat 16 k = s.pc → s.peek (s.hl + BitVec.ofNat 16 k) = 0xED) ∧
    (s.de + BitVec.ofNat 16 k = s.pc + 1 → s.peek (s.hl + BitVec.ofNat 16 k) = 0xB0))

/-- A byte of memory that the copy would only store over with itself is as it was. -/
theorem Copied.peek_eq {k : Nat} {a : Word} {v : Byte} (h : Copied s k t) (ha : s.peek a = v)
    (hown : ∀ j, j < k → s.de + BitVec.ofNat 16 j = a → s.peek (s.hl + BitVec.ofNat 16 j) = v) : t.peek a = v := by
  by_cases hstored : ∃ j, j < k ∧ s.de + BitVec.ofNat 16 j = a
  · obtain ⟨j, hj, rfl⟩ := hstored
    exact (h.copied j hj).trans (hown j hj rfl)
  · exact (h.kept a fun j hj e => hstored ⟨j, hj, e.symm⟩).trans ha

include hcode hown in
/-- LDIR's two bytes still stand at PC. -/
theorem Copied.holdsCode {k : Nat} (h : Copied s k t) (hk : k ≤ n) : t.holdsCode s.pc [0xED, 0xB0] := by
  intro i v hv
  obtain ⟨hread, hpeek⟩ := hcode i v hv
  refine ⟨(congrArg (fun p => p[pageOf (s.pc + BitVec.ofNat 16 i)].readable) h.pages).trans hread,
    h.peek_eq hpeek fun j hj hat => ?_⟩
  obtain ⟨hfirst, hsecond⟩ := hown j (hj.trans_le hk)
  match i, hv with
  | 0, hv => cases hv; exact hfirst (hat.trans (BitVec.add_zero _))
  | 1, hv => cases hv; exact hsecond hat

include hn hcode hpages horder hown in
/-- One step more: it copies the next byte, whose source no earlier step has stored to. -/
theorem Copied.step {k : Nat} (h : Copied s k t) (hpc : t.pc = s.pc) (hk : k < n) :
    ∃ u, step t = .next u ∧ Copied s (k + 1) u ∧
      (k + 1 ≠ n → u.pc = s.pc ∧ u.cycles = t.cycles + 21) ∧
      (k + 1 = n → u.pc = s.pc + 2 ∧ u.cycles = t.cycles + 16 ∧ flagPV u.regs.f = false) := by
  have hlt : k < 65536 := by
    have := s.bc.isLt
    split at hn <;> omega
  obtain ⟨hread, hwrite⟩ := hpages k hk
  obtain ⟨u, hstep, hmem, hpagesu, hbc, hhl, hde, hgoes, hends⟩ := step_ldir (t := t)
    (by rw [hpc]; exact h.holdsCode hcode hown hk.le)
    (by rw [h.hl, State.canRead, h.pages]; exact hread)
    (by rw [h.de, State.canWrite, h.pages]; exact hwrite)
  have hsource : t.peek t.hl = s.peek (s.hl + BitVec.ofNat 16 k) := by
    rw [h.hl]
    exact h.kept _ fun j hj e => horder j k hj hk e.symm
  have hpeek : ∀ a, u.peek a = (t.poke t.de (s.peek (s.hl + BitVec.ofNat 16 k))).peek a := fun a =>
    (congrArg (Memory.read · a.toNat) hmem).trans (by rw [hsource]; rfl)
  have hother : ∀ a, a ≠ s.de + BitVec.ofNat 16 k → u.peek a = t.peek a := fun a ha =>
    (hpeek a).trans (State.peek_poke_other _ _ (h.de ▸ ha))
  have hleft : t.bc - 1 = s.bc - BitVec.ofNat 16 (k + 1) := by rw [h.bc, BitVec.ofNat_add]; bv_omega
  have hzero : t.bc - 1 = 0 ↔ k + 1 = n := by
    rw [hleft]
    exact sub_ofNat_eq_zero_iff hn k.succ_pos hk
  refine ⟨u, hstep,
    ⟨hmem ▸ State.wf_poke h.wf _ _, hpagesu.trans h.pages, hbc.trans hleft, ?_, ?_, fun j hj => ?_, fun a ha => ?_⟩,
    fun hmore => hpc ▸ hgoes (hmore ∘ hzero.mp), fun hlast => hpc ▸ hends (hzero.mpr hlast)⟩
  · rw [hhl, h.hl, add_ofNat_succ]
  · rw [hde, h.de, add_ofNat_succ]
  · obtain hj | rfl := Nat.lt_succ_iff_lt_or_eq.mp hj
    · exact (hother _ (add_ofNat_ne _ hj hlt)).trans (h.copied j hj)
    · rw [hpeek, h.de, State.peek_poke_same h.wf]
  · rw [hother a (ha k k.lt_succ_self), h.kept a fun j hj => ha j (hj.trans k.lt_succ_self)]

include hn hcode hpages horder hown in
/-- After fewer steps than the block has bytes, LDIR is still at its own address. -/
theorem run_ldir (hm : Memory.wf s.mem = true) {k : Nat} (hk : k < n) :
    ∃ t, Sys2Proof.core.run k s = .next t ∧ Copied s k t ∧ t.pc = s.pc ∧ t.cycles = s.cycles + BitVec.ofNat 64 (21 * k) := by
  induction k with
  | zero => exact ⟨s, rfl, copied_zero hm, rfl, (BitVec.add_zero _).symm⟩
  | succ k ih =>
    obtain ⟨t, hrun, hcopied, hpc, hcycles⟩ := ih (by omega)
    obtain ⟨u, hstep, hcopied', hgoes, -⟩ := hcopied.step hn hcode hpages horder hown hpc (by omega)
    obtain ⟨hpc', hcycles'⟩ := hgoes hk.ne
    refine ⟨u, (run_succ_of_run hrun).trans hstep, hcopied', hpc', ?_⟩
    rw [hcycles', hcycles, BitVec.add_assoc, Nat.mul_succ, BitVec.ofNat_add]
    rfl

end

/-- Settles O56: the steps before the last by `run_ldir`, and the last, which finds BC at 1, by `Copied.step`. -/
theorem ldirCopiesTheBlock : Obligations.LdirCopiesTheBlock := by
  intro s n hm hn hcode hpages horder hown
  have hpos : 0 < n := by
    split at hn
    · omega
    · next hbc => exact hn ▸ Nat.pos_of_ne_zero fun h => hbc (BitVec.eq_of_toNat_eq h)
  obtain ⟨k, rfl⟩ := Nat.exists_eq_succ_of_ne_zero hpos.ne'
  obtain ⟨t, hrun, hcopied, hpc, hcycles⟩ := run_ldir hn hcode hpages horder hown hm k.lt_succ_self
  obtain ⟨u, hstep, hcopied', -, hends⟩ := hcopied.step hn hcode hpages horder hown hpc k.lt_succ_self
  obtain ⟨hpc', hcycles', hflag⟩ := hends rfl
  refine ⟨u, (run_succ_of_run hrun).trans hstep, hcopied'.copied, hcopied'.kept, ?_, hcopied'.hl, hcopied'.de, hflag, hpc', ?_⟩
  · rw [hcopied'.bc]
    exact (sub_ofNat_eq_zero_iff hn k.succ_pos le_rfl).mpr rfl
  · rw [hcycles', hcycles, BitVec.add_assoc, BitVec.ofNat_add, Nat.succ_sub_one]
    rfl

end Sys2Proof.Machine
end

section
/-! What no instruction reads (R39, R40, R42 to R44, R460, R496): the same form run from two states that differ in the hidden
fields alone. -/

namespace Sys2Proof.Machine

/-- The fields no instruction reads: mode, debugger, cycles, IM, IFF1 and the last result. -/
structure Hidden where
  mode : Mode
  debugFlag : Bool
  breakpoints : List Breakpoint
  cycles : BitVec 64
  im : BitVec 2
  iff1 : Bool
  result : StepResult

/-- The state with these hidden fields. -/
def State.withHidden (s : State) (h : Hidden) : State :=
  { s with mode := h.mode, debugFlag := h.debugFlag, breakpoints := h.breakpoints, cycles := h.cycles, im := h.im, iff1 := h.iff1
           result := h.result }

/-- Two steps end alike: with states that differ in the hidden fields alone, or with the same fault. -/
def Alike : Result → Result → Prop
  | .next t, .next t' =>
    { t' with mode := t.mode, debugFlag := t.debugFlag, breakpoints := t.breakpoints, cycles := t.cycles, im := t.im, iff1 := t.iff1
              result := t.result } = t
  | .fault f, .fault f' => f = f'
  | _, _ => False

variable {s s' : State} {h : Hidden}

/-! ## Accesses -/

/-- A read answers the same to both. -/
theorem alike_bind {α : Type} {x x' : Except Fault α} {f f' : α → Except Fault State}
    (hf : ∀ v, Alike (outcome (f v)) (outcome (f' v)))
    (hx : x' = x := by rfl) : Alike (outcome (x >>= f)) (outcome (x' >>= f')) := by
  subst hx
  cases x' with
  | ok v => exact hf v
  | error e => exact rfl

/-- A write changes the same byte of both, or faults in both. -/
theorem alike_memWrite (h : Hidden) {a : Word} {v : Byte} {f f' : State → Except Fault State}
    (hf : ∀ u : State, Alike (outcome (f u)) (outcome (f' (u.withHidden h)))) (hs : s' = s.withHidden h := by rfl) :
    Alike (outcome (s.memWrite a v >>= f)) (outcome (s'.memWrite a v >>= f')) := by
  subst hs
  have hcan : (s.withHidden h).canWrite a = s.canWrite a := rfl
  cases hw : s.canWrite a with
  | true =>
    rw [State.memWrite_ok hw, State.memWrite_ok (hcan.trans hw)]
    exact hf (s.poke a v)
  | false =>
    rw [State.memWrite_forbidden hw, State.memWrite_forbidden (hcan.trans hw)]
    exact rfl

theorem alike_memWrite16 (h : Hidden) {a v : Word} {f f' : State → Except Fault State}
    (hf : ∀ u : State, Alike (outcome (f u)) (outcome (f' (u.withHidden h)))) (hs : s' = s.withHidden h := by rfl) :
    Alike (outcome (s.memWrite16 a v >>= f)) (outcome (s'.memWrite16 a v >>= f')) := by
  simp only [State.memWrite16, bind_assoc]
  exact alike_memWrite h (fun _ => alike_memWrite h hf) hs

theorem alike_push16 (h : Hidden) {v : Word} {f f' : State → Except Fault State}
    (hf : ∀ u : State, Alike (outcome (f u)) (outcome (f' (u.withHidden h)))) (hs : s' = s.withHidden h := by rfl) :
    Alike (outcome (s.push16 v >>= f)) (outcome (s'.push16 v >>= f')) := by
  subst hs
  simp only [State.push16, bind_assoc, pure_bind]
  exact alike_memWrite h fun _ => alike_memWrite h fun _ => hf _

theorem alike_pop16 (h : Hidden) {f f' : Word × State → Except Fault State}
    (hf : ∀ v, ∀ u : State, Alike (outcome (f (v, u))) (outcome (f' (v, u.withHidden h)))) :
    Alike (outcome (s.pop16 >>= f)) (outcome ((s.withHidden h).pop16 >>= f')) := by
  simp only [State.pop16, bind_assoc, pure_bind]
  exact alike_bind fun _ => hf _ _

theorem alike_swapTop (h : Hidden) {v : Word} {f f' : Word × State → Except Fault State}
    (hf : ∀ w, ∀ u : State, Alike (outcome (f (w, u))) (outcome (f' (w, u.withHidden h)))) :
    Alike (outcome (s.swapTop v >>= f)) (outcome ((s.withHidden h).swapTop v >>= f')) := by
  simp only [State.swapTop, bind_assoc, pure_bind]
  exact alike_bind fun _ => alike_memWrite h fun _ => alike_memWrite h fun _ => hf _ _

theorem alike_ite {c : Prop} [Decidable c] {r1 r1' r2 r2' : Result} (h1 : Alike r1 r1') (h2 : Alike r2 r2') :
    Alike (if c then r1 else r2) (if c then r1' else r2') := by
  split
  · exact h1
  · exact h2

theorem alike_finish {len cost : Nat} (hs : s' = s.withHidden h) : Alike (.next (s.finish len cost)) (.next (s'.finish len cost)) := by
  subst hs
  exact rfl

/-! ## Ports -/

theorem State.draw_withHidden (s : State) (h : Hidden) (port : Byte) :
    (s.withHidden h).draw port = ((s.draw port).1, (s.draw port).2.withHidden h) := by
  have hin : (s.withHidden h).ioIn = s.ioIn := rfl
  simp only [State.draw, hin]
  cases s.ioIn <;> rfl

theorem State.consoleArrival_withHidden (s : State) (h : Hidden) (port : Byte) (c : Console) :
    (s.withHidden h).consoleArrival port c = ((s.consoleArrival port c).1, (s.consoleArrival port c).2.withHidden h) := by
  simp only [State.consoleArrival, State.draw_withHidden]
  cases c.buffer with
  | some v => rfl
  | none => cases hbit : (s.draw port).1.getLsbD 1 <;> simp

/-- A port read supplies the same byte, whatever the hidden fields, and keeps them. -/
theorem State.ioRead_withHidden (s : State) (h : Hidden) (port : Byte) :
    (s.withHidden h).ioRead port = ((s.ioRead port).1, (s.ioRead port).2.withHidden h) := by
  have hport : (s.withHidden h).portRead port = ((s.portRead port).1, (s.portRead port).2.withHidden h) := by
    have hslots : (s.withHidden h).slots = s.slots := rfl
    have hdevices : (s.withHidden h).devices = s.devices := rfl
    simp only [State.portRead, State.deviceRead, State.consoleDataRead, State.consoleStatusRead, hslots, hdevices,
      State.consoleArrival_withHidden, State.draw_withHidden]
    repeat' split
    all_goals rfl
  rw [State.ioRead, hport]
  rfl

/-- A port write does the same to the devices, whatever the hidden fields, and keeps them. -/
theorem State.ioWrite_withHidden (s : State) (h : Hidden) (port v : Byte) :
    (s.withHidden h).ioWrite port v = (s.ioWrite port v).withHidden h := by
  have hport : (s.withHidden h).portWrite port v = (s.portWrite port v).withHidden h := by
    have hslots : (s.withHidden h).slots = s.slots := rfl
    have hdevices : (s.withHidden h).devices = s.devices := rfl
    simp only [State.portWrite, State.deviceWrite, hslots, hdevices]
    repeat' split
    all_goals rfl
  rw [State.ioWrite, hport]
  rfl

/-! ## Block instructions -/

theorem alike_blockEnd (h : Hidden) {again : Bool} (hs : s' = s.withHidden h := by rfl) :
    Alike (.next (s.blockEnd again)) (.next (s'.blockEnd again)) := by
  subst hs
  cases again <;> exact rfl

theorem alike_blockEndWZ (h : Hidden) {again : Bool} (hs : s' = s.withHidden h := by rfl) :
    Alike (.next (s.blockEndWZ again)) (.next (s'.blockEndWZ again)) := by
  subst hs
  cases again <;> exact rfl

theorem alike_blockMove (s : State) (h : Hidden) (down rep : Bool) :
    Alike (blockMove down rep s) (blockMove down rep (s.withHidden h)) :=
  alike_bind fun _ => alike_memWrite h fun _ => alike_blockEndWZ h

theorem alike_blockCompare (s : State) (h : Hidden) (down rep : Bool) :
    Alike (blockCompare down rep s) (blockCompare down rep (s.withHidden h)) :=
  alike_bind fun _ => alike_blockEndWZ h

theorem alike_blockIn (s : State) (h : Hidden) (down rep : Bool) :
    Alike (blockIn down rep s) (blockIn down rep (s.withHidden h)) := by
  have hread : ((s.withHidden h).setWZ (stepWord down (s.withHidden h).bc)).ioRead (s.withHidden h).regs.c = _ :=
    (s.setWZ (stepWord down s.bc)).ioRead_withHidden h s.regs.c
  simp only [blockIn, hread]
  exact alike_memWrite h fun _ => alike_blockEnd h

theorem alike_blockOut (s : State) (h : Hidden) (down rep : Bool) :
    Alike (blockOut down rep s) (blockOut down rep (s.withHidden h)) := by
  refine alike_bind fun v => alike_blockEnd h ?_
  have hwrite := ((s.setReg .B (s.regs.b - 1)).setWZ (stepWord down (join (s.regs.b - 1) s.regs.c))).ioWrite_withHidden h s.regs.c v
  exact congrArg (fun u : State => (u.setHL _).setF _) hwrite

theorem alike_block (k : BlockOp) (s : State) (h : Hidden) : Alike (runForm (.block k) s) (runForm (.block k) (s.withHidden h)) := by
  cases k with
  | ldi | ldd | ldir | lddr => exact alike_blockMove s h _ _
  | cpi | cpd | cpir | cpdr => exact alike_blockCompare s h _ _
  | ini | ind | inir | indr => exact alike_blockIn s h _ _
  | outi | outd | otir | otdr => exact alike_blockOut s h _ _

/-! ## Every form -/

theorem alike_callTo (s : State) (h : Hidden) (nn : Word) :
    Alike (outcome (s.callTo nn)) (outcome ((s.withHidden h).callTo nn)) :=
  alike_push16 (s := s.setWZ nn) h fun _ => rfl

theorem alike_retWith (s : State) (h : Hidden) (cost : Nat) :
    Alike (outcome (s.retWith cost)) (outcome ((s.withHidden h).retWith cost)) :=
  alike_pop16 h fun _ _ => rfl

/-- Every form ends alike from two states that differ in the hidden fields alone. -/
theorem runForm_alike (g : Form) (s : State) (h : Hidden) : Alike (runForm g s) (runForm g (s.withHidden h)) := by
  cases g with
  -- registers and flags
  | ldRegReg | ldRegImm | ldAccSpecial | ldSpHl | exDeHl | incReg | decReg | daa | cpl | neg | ccf | scf | accRot | rotReg | bitReg
    | chgReg | nop | exAf | exx => exact alike_finish rfl
  | halt | invalid | di | ei | im | jp | jr | jpHl => exact rfl
  | aluReg | aluImm => exact alike_finish rfl
  | ldSpecialAcc q => cases q <;> exact alike_finish rfl
  | ldRegHalf _ x half | ldHalfReg x half | ldHalfHalf x half half' | ldHalfImm x half | aluHalf _ x half | incHalf x half
    | decHalf x half => cases x <;> cases half <;> exact alike_finish rfl
  | ldSpIndex x | ldIndexImm x | incIndex x | decIndex x => cases x <;> exact alike_finish rfl
  | ldPairImm p | incPair p | decPair p | addHl p | adcHl p | sbcHl p => cases p <;> exact alike_finish rfl
  | addIndex x p => cases x <;> cases p <;> exact alike_finish rfl
  -- ports
  | inAcc n =>
    exact alike_finish (congrArg (fun r : Byte × State => r.2.setA r.1) ((s.setWZ (join s.a n + 1)).ioRead_withHidden h n))
  | inReg q =>
    exact alike_finish (congrArg (fun r : Byte × State => (r.2.setReg q r.1).setF ((s.f &&& 0x01) ||| sz53p r.1))
      ((s.setWZ (s.bc + 1)).ioRead_withHidden h s.regs.c))
  | outAcc n => exact alike_finish (congrArg (State.setWZ · (join s.a (n + 1))) (s.ioWrite_withHidden h n s.a))
  | outReg q => exact alike_finish (congrArg (State.setWZ · (s.bc + 1)) (s.ioWrite_withHidden h s.regs.c (s.reg q)))
  -- a read, a write, or a read and a write
  | ldRegMem | bitMem | ldAccAbs | aluMem => exact alike_bind fun _ => alike_finish rfl
  | ldMemReg | ldMemImm | ldAbsAcc => exact alike_memWrite h fun _ => alike_finish rfl
  | incMem | decMem | rotMem | chgMem | rld | rrd => exact alike_bind fun _ => alike_memWrite h fun _ => alike_finish rfl
  | ldRegIdx _ x | bitIdx _ x | aluIdx _ x => cases x <;> exact alike_bind fun _ => alike_finish rfl
  | ldIdxReg x | ldIdxImm x => cases x <;> exact alike_memWrite h fun _ => alike_finish rfl
  | ldAccInd p => cases p <;> exact alike_bind fun _ => alike_finish rfl
  | ldIndAcc p => cases p <;> exact alike_memWrite h fun _ => alike_finish rfl
  | incIdx x | decIdx x => cases x <;> exact alike_bind fun _ => alike_memWrite h fun _ => alike_finish rfl
  | rotIdx _ x _ copy | chgIdx _ _ x _ copy =>
    cases x <;> cases copy <;> exact alike_bind fun _ => alike_memWrite h fun _ => alike_finish rfl
  -- words and the stack
  | ldHlAbs => exact alike_bind fun _ => alike_finish rfl
  | ldPairAbs p => cases p <;> exact alike_bind fun _ => alike_finish rfl
  | ldIndexAbs x => cases x <;> exact alike_bind fun _ => alike_finish rfl
  | ldAbsHl => exact alike_memWrite16 h fun _ => alike_finish rfl
  | ldAbsPair p => cases p <;> exact alike_memWrite16 h fun _ => alike_finish rfl
  | ldAbsIndex x => cases x <;> exact alike_memWrite16 h fun _ => alike_finish rfl
  | pushPair q => cases q <;> exact alike_push16 h fun _ => alike_finish rfl
  | pushIndex x => cases x <;> exact alike_push16 h fun _ => alike_finish rfl
  | popPair q => cases q <;> exact alike_pop16 h fun _ _ => alike_finish rfl
  | popIndex x => cases x <;> exact alike_pop16 h fun _ _ => alike_finish rfl
  | exSpHl => exact alike_swapTop h fun _ _ => alike_finish rfl
  | exSpIndex x => cases x <;> exact alike_swapTop h fun _ _ => alike_finish rfl
  -- control transfer
  | jpIndex x => cases x <;> exact rfl
  | jpCond | jrCond | djnz => exact alike_ite rfl rfl
  | call => exact alike_callTo s h _
  | callCond => exact alike_ite (alike_callTo s h _) rfl
  | ret | retn => exact alike_retWith s h _
  | retCond => exact alike_ite (alike_retWith s h _) rfl
  | reti =>
    rw [runForm, runForm, execReti, execReti, State.retWith, State.retWith, bind_assoc, bind_assoc]
    exact alike_pop16 h fun _ _ => rfl
  | rst => exact alike_push16 h fun _ => rfl
  | block k => exact alike_block k s h

/-- Settles O19: every instruction is a form's, and the hidden fields of the second state are given by name. -/
theorem hiddenStateIsNotRead : Obligations.HiddenStateIsNotRead := by
  intro i s m d b c im f1 r
  obtain ⟨g, rfl⟩ := Laws.HasForm.every i
  have halike := runForm_alike g s ⟨m, d, b, c, im, f1, r⟩
  rw [← exec_toInstr, ← exec_toInstr] at halike
  exact halike


end Sys2Proof.Machine
end
